-- ==== Sys2Proof/Word.lean ====
section
/-! DEFINITION. The bit patterns of the part: the bytes of a post (R1, R2) and the 16-bit check code (R3).
Everything else in the manual is a whole number (00_scope.md, "Arithmetic") and is a `Nat` or an `Int` here. -/

namespace Sys2Proof

/-- One byte of a post on the group bus (R1: eight data bits). -/
abbrev Byte := BitVec 8

/-- The 16-bit remainder of the check code (R3). -/
abbrev Word := BitVec 16

end Sys2Proof
end

