-- ==== Sys2Proof/Config.lean ====
section
/-! DEFINITION. What the manual leaves open: the free values. Each is an opaque constant: nothing can be
proved of its value. The fixed constants of the silicon stand in Sys2Proof/Machine/Operands.lean. -/

namespace Sys2Proof

/-- Whether PAYLOAD_OVER is raised before PEER_LOSS at the n-th report of R31, when both raise
conditions hold at it. No rule orders the two (log 9). -/
opaque Config.payloadFirst : Nat → Bool

/-- The held reference speed where stage S1 selects a speed beyond the range of R80, as a function of
the speed selected. It is limited to the range where it is used (log 27). -/
opaque Config.refSpeedBeyond : Int → Int

/-- The grid power request where R102 computes a power beyond the range of R80, as a function of the
power computed. It is limited to the range where it is used (log 28). -/
opaque Config.requestBeyond : Nat → Nat

end Sys2Proof
end

