-- ==== Sys2Proof/Syntax.lean ====
section
/-! DEFINITION. The commands of the part: one constructor per row of spec/opcode_table.json, with the
operands the row's rule needs. The table gives its rows no fields: an operand here is what the part's
surroundings show it at that event (a line's level, a raw result, the levels of the bits of a received post). -/

namespace Sys2Proof

/-- An active run of the line outside a post (R16): for how many further bit-times the line was idle before it, and
how many bit-times it took. -/
structure ActiveRun where
  waited : Nat
  length : Nat
deriving DecidableEq, Repr

/-- The commands: the operations and events of spec/opcode_table.json, in its order. -/
inductive Instr where
  /-- COLD_RESET (R40): power-on or assertion of the reset line. -/
  | coldReset
  /-- RESET_RELEASE (R40, R41): release of the reset line, with the strap pins as they then read. -/
  | resetRelease (straps : Fin 8)
  /-- SELF_CHECK_COMPLETION (R20, R42): the tag of test post B is handed over. `flipsA` and `flipsB` are the
  bit-times, counted from the end of the start symbol's active run, at which the receiver reads the other level
  than the one looped (none on a sound part, log 24); `faultLine` is the level of the power-stage fault line
  (read at an entry to READY, R173). -/
  | selfCheckCompletion (flipsA flipsB : List Nat) (faultLine : Bool)
  /-- POST_ARRIVAL (R16, R17): a reception ends and its post arrives. `levels` are the line's levels, active
  true, bit-time by bit-time since the start symbol's active run ended. -/
  | postArrival (levels : List Bool)
  /-- LINE_HELD_EPISODE (R19): the line has been active for more than 48 bit-times. -/
  | lineHeldEpisode
  /-- LINE_HELD_END (R19): the line returns to idle. -/
  | lineHeldEnd
  /-- POST_TRANSMISSION (R10, R12): the line has been idle for `waited` further bit-times. -/
  | postTransmission (waited : Nat)
  /-- TRANSMISSION_COMPLETION (R11): the last space bit is sent without a collision. -/
  | transmissionCompletion
  /-- COLLISION (R11): the active level is read at a bit-time at which the attempt drives idle. -/
  | collision
  /-- ABSORPTION (R24): the absorber takes the oldest entry of the receive queue. -/
  | absorption
  /-- LINE_HELD_ENTRY (R25): completion of the absorption of a LINE_HELD entry. -/
  | lineHeldEntry
  /-- TAGGED_POST (R25): completion of the absorption of a post tagged CHECK or FORM. -/
  | taggedPost
  /-- STATE (R27): completion of the absorption of a STATE post. -/
  | state
  /-- ALERT (R27): completion of the absorption of an ALERT post. -/
  | alert
  /-- REPORT (R27): completion of the absorption of a REPORT post. -/
  | report
  /-- DEMAND (R29): completion of the absorption of a DEMAND post. -/
  | demand
  /-- CONFIG (R46): completion of the absorption of a CONFIG post. -/
  | config
  /-- QUERY (R178): completion of the absorption of a QUERY post. -/
  | query
  /-- STOP (R168): completion of the absorption of an ORDER STOP. -/
  | stop
  /-- RELEASE (R170): completion of the absorption of an ORDER RELEASE. -/
  | release
  /-- CLEAR_TRIP (R176): completion of the absorption of an ORDER CLEAR_TRIP, with the level of the
  power-stage fault line. -/
  | clearTrip (faultLine : Bool)
  /-- ACKNOWLEDGE (R164): completion of the absorption of an ORDER ACKNOWLEDGE. -/
  | acknowledge
  /-- RESTART (R51): completion of the absorption of an ORDER RESTART, with the strap pins as they
  then read (R41). -/
  | restart (straps : Fin 8)
  /-- LOCK (R48): completion of the absorption of an ORDER LOCK, with the level of the power-stage
  fault line (read at an entry to READY, R173). -/
  | lock (faultLine : Bool)
  /-- POST_PERIOD_EXPIRY (R30): the age clock expires; the level of the power-stage fault line is read
  if the expiry enters READY. -/
  | postPeriodExpiry (faultLine : Bool)
  /-- LISTEN_INTERVAL_END (R43): the 16th expiry of the age clock in LISTEN. -/
  | listenIntervalEnd (faultLine : Bool)
  /-- CONTROL_PERIOD_EXPIRY (R81, R163): the control-period timer expires. Whether the governor's part
  (the begin of an update, or the refresh of the held reference speed) or the other blocks' part comes
  first is open (R163), so it is an operand. -/
  | controlPeriodExpiry (governorFirst : Bool)
  /-- CONTROL_UPDATE_COMPLETION (R103): the update in flight completes. -/
  | controlUpdateCompletion
  /-- CONVERSION_COMPLETION (R54, R55): the conversion in flight completes with a raw result, a rotation
  rate in mrad/s for WHEEL_SPEED and a number in the channel's unit for every other channel. -/
  | conversionCompletion (raw : Int)
  /-- SUPERFRAME_COMPLETION (R127), with the level of the blower-running line (read if a spin-up
  completes there, R137). -/
  | superframeCompletion (blowerRunning : Bool)
  /-- SPIN_UP_COMPLETION (R137): the superframe completion at which a spin-up completes, with the level
  of the blower-running line. -/
  | spinUpCompletion (blowerRunning : Bool)
  /-- STOP_LINE_ASSERTED (R168). -/
  | stopLineAsserted
  /-- STOP_LINE_INACTIVE (R168). -/
  | stopLineInactive
  /-- POWER_STAGE_FAULT (R173): the power-stage fault line becomes asserted. -/
  | powerStageFault
  /-- START_SYMBOL (R16): an active run ends with the line going idle. -/
  | startSymbol (run : ActiveRun)
deriving DecidableEq, Repr

end Sys2Proof
end

