-- ==== Sys2Proof/Machine/State.lean ====
section
/-! DEFINITION. The state of a WS420, as plain data: every record, register, queue, marker, counter and line
the manual names, block by block, and the queue of commands that wait. -/

namespace Sys2Proof.Machine

/-! ### Coded values (R2, R22, R39, R53, R66, R155, R180) -/

/-- A station number of the group bus: the host (0) or a wheel station (1 to 4). -/
inductive StationId where
  | s0 | s1 | s2 | s3 | s4
deriving DecidableEq, Repr

/-- The eight station states (R39). -/
inductive StationState where
  | reset | listen | commission | ready | run | held | tripped | isolated
deriving DecidableEq, Repr

/-- The isolation reasons (R44). -/
inductive IsolationReason where
  | strap | selfCheck | duplicate
deriving DecidableEq, Repr

/-- The side of the wheel (R41). -/
inductive Side where
  | left | right
deriving DecidableEq, Repr

/-- The governor modes (R80). -/
inductive Mode where
  | coast | propel | retard | hold
deriving DecidableEq, Repr

/-- The slip classes (R89). -/
inductive SlipClass where
  | grip | creep | slip | skid
deriving DecidableEq, Repr

/-- The directions of the operator's demand (R5). -/
inductive Direction where
  | forward | reverse | neutral
deriving DecidableEq, Repr

/-- The trip causes (R173). -/
inductive TripCause where
  | overcurrent | linkHard | gridOpen
deriving DecidableEq, Repr

/-- The protection classes, from level 0 to level 7 (R155). -/
inductive ProtClass where
  | stop | gridHot | windingHot | slipPersist | payloadOver | peerLoss | sensorFault | base
deriving DecidableEq, Repr

/-- The measurement channels, in the order of their codes (R53). -/
inductive Channel where
  | wheelSpeed | torqueFb | linkVoltage | windingTemp | gridElementTemp | gridAirTemp | gridCurrent
deriving DecidableEq, Repr

/-- The post kinds (R2). -/
inductive PostKind where
  | state | demand | alert | order | config | query | report
deriving DecidableEq, Repr

/-- The alert kinds (R6). -/
inductive AlertKind where
  | contextTaken | contextCleared | trip | stopTaken | holdEntered | holdLeft | configRefused
  | duplicateHeard | blowerFault
deriving DecidableEq, Repr

/-- The order kinds (R7). -/
inductive OrderKind where
  | stop | release | clearTrip | acknowledge | restart | lock
deriving DecidableEq, Repr

/-- The report pages (R178 and following). -/
inductive Page where
  | identity | counters | stack | peers | channels | grid
deriving DecidableEq, Repr

/-- The presence of a peer entry (R22). -/
inductive Presence where
  | absent | fresh | aged | lost
deriving DecidableEq, Repr

/-- The standing of the demand in force (R33). -/
inductive Standing where
  | posted | held | fallback
deriving DecidableEq, Repr

/-- The judgement of a conversion result (R53); a record without one has none. -/
inductive Judgement where
  | good | bad
deriving DecidableEq, Repr

/-- The wheel's place in the curve (R72). -/
inductive Role where
  | outer | inner | straight
deriving DecidableEq, Repr

/-- The payload classes (R150). -/
inductive PayloadClass where
  | normal | heavy | over | unknown
deriving DecidableEq, Repr

/-- The 19 counters, in the order of their indices (R182). -/
inductive CounterId where
  | postsSent | collisions | dropped | stateReplacements | urgentOverflows | receivedGood | checkTags
  | formTags | overruns | duplicates | lineHeldEpisodes | refusedOrders | configAfterLock | configClamps
  | overcurrentTrips | linkHardTrips | gridOpenTrips | stopTakes | duplicateOwnNumber
deriving DecidableEq, Repr

/-! ### Posts (R2 to R8, R23) -/

/-- The fields of a STATE post or of a stored STATE record (R4, R23). -/
structure StateRecord where
  stationState : StationState
  mode : Mode
  topLevel : Nat
  slip : SlipClass
  wheelSpeed : Option Int
  centreSpeed : Option Int
  torque : Int
  offer : Nat
  gridTemp : Int
  brake : Bool
  tripCause : Option TripCause
deriving DecidableEq, Repr

/-- The fields of a DEMAND post or of a stored DEMAND record (R5, R23). -/
structure DemandRecord where
  direction : Direction
  hold : Bool
  propel : Nat
  retard : Nat
  steer : Int
  ceiling : Nat
  payload : Option Nat
  frontRef : Option Int
deriving DecidableEq, Repr

/-- The kind of a post with its fields (R4 to R8). Targets, item numbers, indices and arguments are the
numbers the byte carries (ALL is target 15). -/
inductive Body where
  | state (r : StateRecord)
  | demand (r : DemandRecord)
  | alert (kind : AlertKind) (args : List Nat)
  | order (kind : OrderKind) (target argument : Nat)
  | config (target item value : Nat)
  | query (target : Nat) (page : Page) (index : Nat)
  | report (page : Page) (index : Nat) (data : List Byte)
deriving DecidableEq, Repr

/-- A post as its header and body give it (R2). -/
structure Post where
  source : StationId
  seq : Nat
  body : Body
deriving DecidableEq, Repr

/-- The tag the receiver gives an arriving post or a looped test post (R17, R20). -/
inductive Tag where
  | untagged
  | check
  | form
deriving DecidableEq, Repr

/-- What the receiver read (R16): a post read to the end of its last check byte, or a reception that a mark bit
read idle or a space bit read active ended early. The bytes are those read until then. -/
inductive Reception where
  | whole (bytes : List Byte)
  | truncated (bytes : List Byte)
  | framing (bytes : List Byte)
deriving DecidableEq, Repr

/-- An entry of the receive queue (R18, R19): an untagged post, a post tagged CHECK or FORM with the
bytes that were read, or a LINE_HELD marker. -/
inductive RxEntry where
  | good (p : Post)
  | check (bytes : List Byte)
  | form (bytes : List Byte)
  | lineHeld
deriving DecidableEq, Repr

/-! ### The blocks -/

/-- The local lines into the part, as last shown to it (00_scope.md, "Lines and pins"). -/
structure Pins where
  resetLine : Bool
  straps : Fin 8
  stopLine : Bool
  faultLine : Bool
  blowerRunning : Bool
deriving DecidableEq, Repr

/-- The commissioning record, items 1 to 20 in order (R45). -/
structure CommRecord where
  wheelbase : Nat
  rollingRadius : Nat
  halfTrack : Nat
  propelMax : Nat
  baseSpeed : Nat
  retardMax : Nat
  gridPower : Nat
  gridResistance : Nat
  ratedPayload : Nat
  airDensity : Nat
  controlPeriod : Nat
  postPeriod : Nat
  minDriven : Nat
  governorGain : Nat
  rampUp : Nat
  rampDown : Nat
  lateralLimit : Nat
  continuousTorque : Nat
  heavyCeiling : Nat
  orphanCeiling : Nat
deriving DecidableEq, Repr

/-- Station control (chapter Station States and Commissioning). The side follows from the number (R41). -/
structure Station where
  state : StationState
  number : Nat
  isolation : Option IsolationReason
  record : CommRecord
  locked : Bool
  listenCounter : Nat
  selfCheckPassed : Bool
deriving DecidableEq, Repr

/-- The transmit register (R11, R12): the post being sent with the sequence number written into its
header, the bytes of the attempt in progress if there is one, and whether a warm restart has made that
attempt the last (R15). -/
structure TxRegister where
  body : Body
  seq : Nat
  attempt : Option (List Byte)
  last : Bool
deriving DecidableEq, Repr

/-- The loopback self-check in flight (R20): the two test posts, the tag of A once it has been handed over (until
then A is the post to be looped, after that B), how many bit-times of that post have been looped, and whether it
is being looped (no: it was abandoned, or waits for a line reception to end). -/
structure Loopback where
  postA : List Byte
  postB : List Byte
  tagA : Option Tag
  sent : Nat
  looping : Bool
deriving DecidableEq, Repr

/-- The 19 counters (R21, R38, R182, R183). -/
structure Counters where
  postsSent : Nat
  collisions : Nat
  dropped : Nat
  stateReplacements : Nat
  urgentOverflows : Nat
  receivedGood : Nat
  checkTags : Nat
  formTags : Nat
  overruns : Nat
  duplicates : Nat
  lineHeldEpisodes : Nat
  refusedOrders : Nat
  configAfterLock : Nat
  configClamps : Nat
  overcurrentTrips : Nat
  linkHardTrips : Nat
  gridOpenTrips : Nat
  stopTakes : Nat
  duplicateOwnNumber : Nat
deriving DecidableEq, Repr

/-- The bus port (chapter The Group Bus). The queued-error indicator follows from the receive queue (R18).
`receiving` is a line reception in progress; `looking` says that outside one the receiver looks for a start
symbol, which after a reception that ended early it does only once the line has been idle for 2 bit-times (R16). -/
structure BusPort where
  tx : Option TxRegister
  urgent : List Body
  stateSlot : Option Body
  reportSlot : Option Body
  seq : Nat
  consecutive : Nat
  rx : List RxEntry
  receiving : Bool
  looking : Bool
  lineHeld : Bool
  idleTime : Nat
  loopback : Option Loopback
deriving DecidableEq, Repr

/-- The contents of a peer entry (R22). -/
inductive Contents where
  | none
  | demand (r : DemandRecord)
  | state (r : StateRecord)
deriving DecidableEq, Repr

/-- A peer entry (R22). -/
structure PeerEntry where
  presence : Presence
  age : Nat
  lastKind : Option PostKind
  lastSeq : Option Nat
  missed : Nat
  contents : Contents
  lastAlert : Option AlertKind
deriving DecidableEq, Repr

/-- The peer entries by station number (R22). The entry of the station's own number is not one of the
four: it is never written and stays ABSENT. -/
structure Peers where
  e0 : PeerEntry
  e1 : PeerEntry
  e2 : PeerEntry
  e3 : PeerEntry
  e4 : PeerEntry
deriving DecidableEq, Repr

/-- The peer view (chapter The Peer View). `ageClock` is the period in ms with which the age clock was
last loaded (R30, R47). -/
structure PeerView where
  entries : Peers
  absorber : Option RxEntry
  ownHeard : Bool
  ageClock : Nat
deriving DecidableEq, Repr

/-- A channel record (R53). -/
structure ChannelRecord where
  value : Int
  lastGood : Option Int
  status : Option Judgement
  badRun : Nat
  goodRun : Nat
  faulted : Bool
deriving DecidableEq, Repr

/-- The seven channel records (R53). -/
structure Channels where
  wheelSpeed : ChannelRecord
  torqueFb : ChannelRecord
  linkVoltage : ChannelRecord
  windingTemp : ChannelRecord
  gridElementTemp : ChannelRecord
  gridAirTemp : ChannelRecord
  gridCurrent : ChannelRecord
deriving DecidableEq, Repr

/-- The measurement unit (chapter Measurement Channels): the records, the fault-order list and the
channel of the conversion in flight (R54). -/
structure Measurement where
  channels : Channels
  faultOrder : List Channel
  converting : Option Channel
deriving DecidableEq, Repr

/-- The geometry record (R66). -/
structure Geometry where
  steer : Int
  tanT : Int
  turnFactor : Int
  role : Role
  turnCeiling : Option Nat
  diffEnabled : Bool
  diff : Nat
deriving DecidableEq, Repr

/-- The demand in force (R33): a DEMAND record with its standing and whether the differential is enabled. -/
structure DemandInForce where
  demand : DemandRecord
  standing : Standing
  diffEnabled : Bool
deriving DecidableEq, Repr

/-- The snapshot a control update works on (R82). -/
structure Snapshot where
  wheelSpeed : Int
  wheelFaulted : Bool
  linkVoltage : Int
  linkFaulted : Bool
  peers : Peers
  demand : DemandInForce
  geometry : Geometry
  propelCeiling : Nat
  speedCeiling : Option Nat
  offer : Nat
  derate : Nat
  payloadClass : PayloadClass
  previous : Int
  vRef : Int
  mode : Mode
  slipFactor : Nat
  persistence : Nat
  grip : Nat
  shortfall : Nat
  opening : Bool
deriving DecidableEq, Repr

/-- A control update in flight (R82), and whether a departure from RUN has made its result one to be
discarded (R85). -/
structure Update where
  snapshot : Snapshot
  discarded : Bool
deriving DecidableEq, Repr

/-- The torque governor (R80). `period` is the period in ms with which the control-period timer was last
loaded (R47, R81). `expSign` is the model's own: the direction sign of the latest completed update, with
which u_exp gives the expected wheel speed in cm/s (R61, log 17). -/
structure Governor where
  mode : Mode
  output : Int
  request : Nat
  vRef : Int
  uRef : Int
  uExp : Option Int
  expSign : Int
  slip : SlipClass
  slipFactor : Nat
  persistence : Nat
  grip : Nat
  shortfall : Nat
  holdMarker : Bool
  opening : Bool
  period : Nat
  update : Option Update
deriving DecidableEq, Repr

/-- The grid section (R121). `elapsed` is the frame position: the whole bit-times of 2 µs that have
passed of the superframe in flight (8000 of them, R1, R122). `elementGood` is the latest GOOD
GRID_ELEMENT_TEMP result handed over (R128), `currentLow` whether every GRID_CURRENT result of the
superframe in flight was GOOD and below 50 A, and `counted` whether that superframe is counted (R139). -/
structure Grid where
  elapsed : Nat
  duty : Nat
  latchedVoltage : Nat
  theta : Option Int
  gridTemp : Option Int
  offer : Nat
  established : Nat
  target : Nat
  spinUp : Option Nat
  blowerFault : Bool
  openCounter : Nat
  elementGood : Option Int
  currentLow : Bool
  counted : Bool
deriving DecidableEq, Repr

/-- Load accounting (R141), with the standing of the latest report (R153, R163). -/
structure LoadAccounting where
  accumulator : Nat
  derate : Nat
  percentage : Option Nat
  payloadClass : PayloadClass
  standing : Standing
deriving DecidableEq, Repr

/-- A context of the response stack (R156). -/
structure Context where
  cls : ProtClass
  entrySeq : Nat
  entrySpeed : Int
  entryTorque : Int
  hold : Nat
  clearReady : Bool
  channels : List Channel
deriving DecidableEq, Repr

/-- The protection unit (R156, R157, R159, R167, R174). The stack is listed from the top down, BASE last.
The two sets are listed lowest level first. The brake reasons STOP and TRIPPED follow from the stack and
the station state (R167). -/
structure Protection where
  stack : List Context
  pendingSet : List ProtClass
  deferredSet : List ProtClass
  firstCause : Option TripCause
  causes : List TripCause
  stopLine : Bool
  heldReason : Bool
  shortfallReason : Bool
  grace : Nat
deriving DecidableEq, Repr

/-- The whole part. `pending` is the queue of waiting commands, first in, first out; `reports` counts the
reports of R31, the argument of the free value `Config.payloadFirst` (log 9). Both are the model's own. -/
structure State where
  pins : Pins
  station : Station
  bus : BusPort
  counters : Counters
  peers : PeerView
  meas : Measurement
  geo : Geometry
  gov : Governor
  grid : Grid
  load : LoadAccounting
  prot : Protection
  reports : Nat
  pending : List Instr
deriving DecidableEq, Repr

/-- The reasons for which a command stops the part with a fault: there are none. Nothing in the manual
stops the part (a trip, an isolation and a faulted channel are states it goes on in), so no command
raises one; this is safe. -/
inductive Fault where
deriving DecidableEq, Repr

/-- The reasons for which the model refuses a command. -/
inductive Refusal where
  /-- The command has no meaning in the model yet: raised by `exec` for the row of this mnemonic. Safe: a
  refused command has no next state. No row is refused. -/
  | notModelled (mnemonic : String)
deriving DecidableEq, Repr

/-! ### Values of cold reset -/

/-- The default of every commissioning item (R45). -/
def CommRecord.default : CommRecord where
  wheelbase := 6500
  rollingRadius := 1900
  halfTrack := 2900
  propelMax := 3000
  baseSpeed := 400
  retardMax := 3000
  gridPower := 2000
  gridResistance := 1000
  ratedPayload := 290
  airDensity := 256
  controlPeriod := 5
  postPeriod := 10
  minDriven := 2
  governorGain := 8
  rampUp := 40
  rampDown := 120
  lateralLimit := 200
  continuousTorque := 1800
  heavyCeiling := 1111
  orphanCeiling := 417

/-- Every counter at 0 (R21, R183). -/
def Counters.zero : Counters :=
  ⟨0, 0, 0, 0, 0, 0, 0, 0, 0, 0, 0, 0, 0, 0, 0, 0, 0, 0, 0⟩

/-- An ABSENT peer entry (R22). -/
def PeerEntry.absent : PeerEntry where
  presence := .absent
  age := 0
  lastKind := none
  lastSeq := none
  missed := 0
  contents := .none
  lastAlert := none

/-- Every entry ABSENT (R22, R38). -/
def Peers.absent : Peers :=
  ⟨.absent, .absent, .absent, .absent, .absent⟩

/-- A channel record at release of cold reset (R53). -/
def ChannelRecord.cold : ChannelRecord where
  value := 0
  lastGood := none
  status := none
  badRun := 0
  goodRun := 0
  faulted := false

/-- The BASE context: entry fields 0, hold 0, clear-ready no (R156). -/
def Context.base : Context where
  cls := .base
  entrySeq := 0
  entrySpeed := 0
  entryTorque := 0
  hold := 0
  clearReady := false
  channels := []

/-- The bus port at release of cold reset (R1, R15, R16, R18, R19). -/
def BusPort.cold : BusPort where
  tx := none
  urgent := []
  stateSlot := none
  reportSlot := none
  seq := 0
  consecutive := 0
  rx := []
  receiving := false
  looking := true
  lineHeld := false
  idleTime := 0
  loopback := none

/-- The peer view at release of cold reset (R38): the age clock starts a full default post_period. -/
def PeerView.cold : PeerView where
  entries := .absent
  absorber := none
  ownHeard := false
  ageClock := 10

/-- The measurement unit at cold reset (R53), with no conversion in flight. -/
def Measurement.cold : Measurement where
  channels := ⟨.cold, .cold, .cold, .cold, .cold, .cold, .cold⟩
  faultOrder := []
  converting := none

/-- The geometry record at release of cold reset and after a warm restart (R66). -/
def Geometry.cold : Geometry where
  steer := 0
  tanT := 0
  turnFactor := 4096
  role := .straight
  turnCeiling := none
  diffEnabled := false
  diff := 0

/-- The torque governor at release of cold reset (R80); the control-period timer starts with 5 ms (R81). -/
def Governor.cold : Governor where
  mode := .coast
  output := 0
  request := 0
  vRef := 0
  uRef := 0
  uExp := none
  expSign := 1
  slip := .grip
  slipFactor := 1024
  persistence := 0
  grip := 0
  shortfall := 0
  holdMarker := false
  opening := false
  period := 5
  update := none

/-- The grid section at release of cold reset (R121), the first superframe just begun with duty 0 (R124). -/
def Grid.cold : Grid where
  elapsed := 0
  duty := 0
  latchedVoltage := 0
  theta := none
  gridTemp := none
  offer := 0
  established := 0
  target := 0
  spinUp := none
  blowerFault := false
  openCounter := 0
  elementGood := none
  currentLow := true
  counted := true

/-- Load accounting at release of cold reset (R141). -/
def LoadAccounting.cold : LoadAccounting where
  accumulator := 0
  derate := 1024
  percentage := none
  payloadClass := .unknown
  standing := .fallback

/-- The protection unit at release of cold reset with the stop line inactive (R159, R177). -/
def Protection.cold : Protection where
  stack := [.base]
  pendingSet := []
  deferredSet := []
  firstCause := none
  causes := []
  stopLine := false
  heldReason := false
  shortfallReason := false
  grace := 3

/-- The part right after power-on (R40): in RESET, the reset line asserted, every item at its value of
cold reset. The straps are not yet read and no line but the reset line has been seen asserted (log 4). -/
def State.reset : State where
  pins := ⟨true, 0, false, false, false⟩
  station := ⟨.reset, 0, none, .default, false, 0, false⟩
  bus := .cold
  counters := .zero
  peers := .cold
  meas := .cold
  geo := .cold
  gov := .cold
  grid := .cold
  load := .cold
  prot := .cold
  reports := 0
  pending := []

end Sys2Proof.Machine
end

