-- ==== Sys2Proof/Machine/Operands.lean ====
section
/-! DEFINITION. The number forms and codes of the manual: the codes of R2 and R180, the byte forms of R2, the
check code of R3, the clamps and roundings of 00_scope.md, the counters' indices (R182), the commissioning
items' ranges (R45), and access by station number, channel, counter and item. -/

namespace Sys2Proof.Machine

/-! ### Whole numbers (00_scope.md, "Arithmetic") -/

/-- A value beyond a bound is replaced by the nearer bound. -/
def clampInt (lo hi x : Int) : Int := max lo (min hi x)

/-- A value beyond a bound is replaced by the nearer bound. -/
def clampNat (lo hi x : Nat) : Nat := max lo (min hi x)

/-- The sign of a number, with +1 for 0. -/
def signOrPlus (x : Int) : Int := if x < 0 then -1 else 1

/-- The least of a value and an optional one. -/
def minOpt (a : Nat) : Option Nat → Nat
  | none => a
  | some b => min a b

/-- The increase of a count that stops at `top`. -/
def countTo (top n : Nat) : Nat := min top (n + 1)

/-! ### Bytes (R2): high byte first, signed fields in two's complement -/

/-- A number 0 to 255 as one byte. -/
def byte (n : Nat) : Byte := BitVec.ofNat 8 n

/-- A number 0 to 65535 as two bytes, high byte first. -/
def bytes16 (n : Nat) : List Byte := [BitVec.ofNat 8 (n / 256), BitVec.ofNat 8 n]

/-- A signed number as two bytes in two's complement, high byte first. -/
def signed16 (i : Int) : List Byte := bytes16 (i % 65536).toNat

/-- The number two bytes hold, high byte first. -/
def nat16 (hi lo : Byte) : Nat := hi.toNat * 256 + lo.toNat

/-- The signed number two bytes hold in two's complement, high byte first. -/
def int16 (hi lo : Byte) : Int :=
  if nat16 hi lo < 32768 then (nat16 hi lo : Int) else (nat16 hi lo : Int) - 65536

/-- A yes/no field: no 0, yes 1 (R2). -/
def yesNo (b : Bool) : Nat := if b then 1 else 0

/-! ### Lengths (R2) -/

/-- The number of body bytes the sequence-and-length byte announces: B = 2 × L + 4, L the low four bits (R2). -/
def bodyLength (seqLen : Byte) : Nat := 2 * (seqLen.toNat % 16) + 4

/-- The number of bytes of a whole post whose first bytes are these: header, body and check (R2);
nothing if the header is not complete. -/
def postLength : List Byte → Option Nat
  | _ :: _ :: seqLen :: _ :: _ => some (4 + bodyLength seqLen + 2)
  | _ => none

/-! ### The check code (R3) -/

/-- One bit of the division by x^16 + x^12 + x^5 + 1. -/
def crcBit (r : Word) (bit : Bool) : Word :=
  if r.msb != bit then (r <<< 1) ^^^ 0x1021#16 else r <<< 1

/-- One byte of the division, most significant bit first. -/
def crcByte (r : Word) (b : Byte) : Word :=
  crcBit (crcBit (crcBit (crcBit (crcBit (crcBit (crcBit (crcBit r
    (b.getLsbD 7)) (b.getLsbD 6)) (b.getLsbD 5)) (b.getLsbD 4))
    (b.getLsbD 3)) (b.getLsbD 2)) (b.getLsbD 1)) (b.getLsbD 0)

/-- The check code of header and body: the remainder, from all ones (R3). -/
def crc (bytes : List Byte) : Word := bytes.foldl crcByte 0xFFFF#16

/-- The two check bytes, high byte first (R2). -/
def crcBytes (bytes : List Byte) : List Byte := bytes16 (crc bytes).toNat

/-! ### Codes (R2, R180) and their reading -/

def StationId.num : StationId → Nat
  | .s0 => 0 | .s1 => 1 | .s2 => 2 | .s3 => 3 | .s4 => 4

def StationId.ofCode : Nat → Option StationId
  | 0 => some .s0 | 1 => some .s1 | 2 => some .s2 | 3 => some .s3 | 4 => some .s4 | _ => none

def StationState.code : StationState → Nat
  | .reset => 0 | .listen => 1 | .commission => 2 | .ready => 3
  | .run => 4 | .held => 5 | .tripped => 6 | .isolated => 7

def StationState.ofCode : Nat → Option StationState
  | 0 => some .reset | 1 => some .listen | 2 => some .commission | 3 => some .ready
  | 4 => some .run | 5 => some .held | 6 => some .tripped | 7 => some .isolated | _ => none

def Mode.code : Mode → Nat
  | .coast => 0 | .propel => 1 | .retard => 2 | .hold => 3

def Mode.ofCode : Nat → Option Mode
  | 0 => some .coast | 1 => some .propel | 2 => some .retard | 3 => some .hold | _ => none

def SlipClass.code : SlipClass → Nat
  | .grip => 0 | .creep => 1 | .slip => 2 | .skid => 3

def SlipClass.ofCode : Nat → Option SlipClass
  | 0 => some .grip | 1 => some .creep | 2 => some .slip | 3 => some .skid | _ => none

def Direction.code : Direction → Nat
  | .forward => 1 | .reverse => 2 | .neutral => 3

def Direction.ofCode : Nat → Option Direction
  | 1 => some .forward | 2 => some .reverse | 3 => some .neutral | _ => none

def TripCause.code : TripCause → Nat
  | .overcurrent => 1 | .linkHard => 2 | .gridOpen => 3

def TripCause.ofCode : Nat → Option TripCause
  | 1 => some .overcurrent | 2 => some .linkHard | 3 => some .gridOpen | _ => none

/-- A trip cause field: 0 when absent (R2). -/
def TripCause.fieldCode : Option TripCause → Nat
  | none => 0
  | some c => c.code

/-- The level of a class, which is also its code (R155). -/
def ProtClass.level : ProtClass → Nat
  | .stop => 0 | .gridHot => 1 | .windingHot => 2 | .slipPersist => 3
  | .payloadOver => 4 | .peerLoss => 5 | .sensorFault => 6 | .base => 7

def Channel.code : Channel → Nat
  | .wheelSpeed => 1 | .torqueFb => 2 | .linkVoltage => 3 | .windingTemp => 4
  | .gridElementTemp => 5 | .gridAirTemp => 6 | .gridCurrent => 7

/-- The channel served after this one (R54). -/
def Channel.next : Channel → Channel
  | .wheelSpeed => .torqueFb | .torqueFb => .linkVoltage | .linkVoltage => .windingTemp
  | .windingTemp => .gridElementTemp | .gridElementTemp => .gridAirTemp
  | .gridAirTemp => .gridCurrent | .gridCurrent => .wheelSpeed

def PostKind.code : PostKind → Nat
  | .state => 1 | .demand => 2 | .alert => 3 | .order => 4 | .config => 5 | .query => 6 | .report => 7

def PostKind.ofCode : Nat → Option PostKind
  | 1 => some .state | 2 => some .demand | 3 => some .alert | 4 => some .order
  | 5 => some .config | 6 => some .query | 7 => some .report | _ => none

def AlertKind.code : AlertKind → Nat
  | .contextTaken => 1 | .contextCleared => 2 | .trip => 3 | .stopTaken => 4 | .holdEntered => 5
  | .holdLeft => 6 | .configRefused => 7 | .duplicateHeard => 8 | .blowerFault => 9

def AlertKind.ofCode : Nat → Option AlertKind
  | 1 => some .contextTaken | 2 => some .contextCleared | 3 => some .trip | 4 => some .stopTaken
  | 5 => some .holdEntered | 6 => some .holdLeft | 7 => some .configRefused
  | 8 => some .duplicateHeard | 9 => some .blowerFault | _ => none

def OrderKind.code : OrderKind → Nat
  | .stop => 1 | .release => 2 | .clearTrip => 3 | .acknowledge => 4 | .restart => 5 | .lock => 6

def OrderKind.ofCode : Nat → Option OrderKind
  | 1 => some .stop | 2 => some .release | 3 => some .clearTrip | 4 => some .acknowledge
  | 5 => some .restart | 6 => some .lock | _ => none

/-- The target ALL of an ORDER (R2). -/
def targetAll : Nat := 15

def Page.code : Page → Nat
  | .identity => 1 | .counters => 2 | .stack => 3 | .peers => 4 | .channels => 5 | .grid => 6

def Page.ofCode : Nat → Option Page
  | 1 => some .identity | 2 => some .counters | 3 => some .stack | 4 => some .peers
  | 5 => some .channels | 6 => some .grid | _ => none

def Presence.code : Presence → Nat
  | .absent => 0 | .fresh => 1 | .aged => 2 | .lost => 3

def Side.code : Side → Nat
  | .left => 1 | .right => 2

/-- Channel status: none 0, GOOD 1, BAD 2 (R180). -/
def statusCode : Option Judgement → Nat
  | none => 0 | some .good => 1 | some .bad => 2

/-- The kind of a post by its body (R2). -/
def Body.kind : Body → PostKind
  | .state _ => .state
  | .demand _ => .demand
  | .alert _ _ => .alert
  | .order _ _ _ => .order
  | .config _ _ _ => .config
  | .query _ _ _ => .query
  | .report _ _ _ => .report

/-! ### Access by number, channel and counter -/

def Peers.get (p : Peers) : StationId → PeerEntry
  | .s0 => p.e0 | .s1 => p.e1 | .s2 => p.e2 | .s3 => p.e3 | .s4 => p.e4

def Peers.set (p : Peers) (e : PeerEntry) : StationId → Peers
  | .s0 => { p with e0 := e }
  | .s1 => { p with e1 := e }
  | .s2 => { p with e2 := e }
  | .s3 => { p with e3 := e }
  | .s4 => { p with e4 := e }

/-- The same change of every entry. -/
def Peers.map (f : PeerEntry → PeerEntry) (p : Peers) : Peers :=
  ⟨f p.e0, f p.e1, f p.e2, f p.e3, f p.e4⟩

/-- The entries of the wheel stations, in ascending number. -/
def Peers.wheels (p : Peers) : List PeerEntry := [p.e1, p.e2, p.e3, p.e4]

def Channels.get (c : Channels) : Channel → ChannelRecord
  | .wheelSpeed => c.wheelSpeed
  | .torqueFb => c.torqueFb
  | .linkVoltage => c.linkVoltage
  | .windingTemp => c.windingTemp
  | .gridElementTemp => c.gridElementTemp
  | .gridAirTemp => c.gridAirTemp
  | .gridCurrent => c.gridCurrent

def Channels.set (c : Channels) (r : ChannelRecord) : Channel → Channels
  | .wheelSpeed => { c with wheelSpeed := r }
  | .torqueFb => { c with torqueFb := r }
  | .linkVoltage => { c with linkVoltage := r }
  | .windingTemp => { c with windingTemp := r }
  | .gridElementTemp => { c with gridElementTemp := r }
  | .gridAirTemp => { c with gridAirTemp := r }
  | .gridCurrent => { c with gridCurrent := r }

/-- The counter an index of the COUNTERS page names (R182). -/
def CounterId.ofIndex : Nat → Option CounterId
  | 0 => some .postsSent | 1 => some .collisions | 2 => some .dropped | 3 => some .stateReplacements
  | 4 => some .urgentOverflows | 5 => some .receivedGood | 6 => some .checkTags | 7 => some .formTags
  | 8 => some .overruns | 9 => some .duplicates | 10 => some .lineHeldEpisodes
  | 11 => some .refusedOrders | 12 => some .configAfterLock | 13 => some .configClamps
  | 14 => some .overcurrentTrips | 15 => some .linkHardTrips | 16 => some .gridOpenTrips
  | 17 => some .stopTakes | 18 => some .duplicateOwnNumber | _ => none

def Counters.get (c : Counters) : CounterId → Nat
  | .postsSent => c.postsSent
  | .collisions => c.collisions
  | .dropped => c.dropped
  | .stateReplacements => c.stateReplacements
  | .urgentOverflows => c.urgentOverflows
  | .receivedGood => c.receivedGood
  | .checkTags => c.checkTags
  | .formTags => c.formTags
  | .overruns => c.overruns
  | .duplicates => c.duplicates
  | .lineHeldEpisodes => c.lineHeldEpisodes
  | .refusedOrders => c.refusedOrders
  | .configAfterLock => c.configAfterLock
  | .configClamps => c.configClamps
  | .overcurrentTrips => c.overcurrentTrips
  | .linkHardTrips => c.linkHardTrips
  | .gridOpenTrips => c.gridOpenTrips
  | .stopTakes => c.stopTakes
  | .duplicateOwnNumber => c.duplicateOwnNumber

/-- A counter's increase by 1, stopping at 65535 (R183). -/
def Counters.bump (c : Counters) : CounterId → Counters
  | .postsSent => { c with postsSent := countTo 65535 c.postsSent }
  | .collisions => { c with collisions := countTo 65535 c.collisions }
  | .dropped => { c with dropped := countTo 65535 c.dropped }
  | .stateReplacements => { c with stateReplacements := countTo 65535 c.stateReplacements }
  | .urgentOverflows => { c with urgentOverflows := countTo 65535 c.urgentOverflows }
  | .receivedGood => { c with receivedGood := countTo 65535 c.receivedGood }
  | .checkTags => { c with checkTags := countTo 65535 c.checkTags }
  | .formTags => { c with formTags := countTo 65535 c.formTags }
  | .overruns => { c with overruns := countTo 65535 c.overruns }
  | .duplicates => { c with duplicates := countTo 65535 c.duplicates }
  | .lineHeldEpisodes => { c with lineHeldEpisodes := countTo 65535 c.lineHeldEpisodes }
  | .refusedOrders => { c with refusedOrders := countTo 65535 c.refusedOrders }
  | .configAfterLock => { c with configAfterLock := countTo 65535 c.configAfterLock }
  | .configClamps => { c with configClamps := countTo 65535 c.configClamps }
  | .overcurrentTrips => { c with overcurrentTrips := countTo 65535 c.overcurrentTrips }
  | .linkHardTrips => { c with linkHardTrips := countTo 65535 c.linkHardTrips }
  | .gridOpenTrips => { c with gridOpenTrips := countTo 65535 c.gridOpenTrips }
  | .stopTakes => { c with stopTakes := countTo 65535 c.stopTakes }
  | .duplicateOwnNumber => { c with duplicateOwnNumber := countTo 65535 c.duplicateOwnNumber }

/-! ### Commissioning items (R45) -/

/-- The range of an item; none for an item number that names no item (R45, R46). -/
def itemRange : Nat → Option (Nat × Nat)
  | 1 => some (3000, 9000)
  | 2 => some (1000, 2200)
  | 3 => some (1000, 3500)
  | 4 => some (500, 4000)
  | 5 => some (100, 1500)
  | 6 => some (500, 4000)
  | 7 => some (200, 4000)
  | 8 => some (200, 5000)
  | 9 => some (50, 500)
  | 10 => some (128, 256)
  | 11 => some (2, 10)
  | 12 => some (5, 50)
  | 13 => some (1, 4)
  | 14 => some (1, 40)
  | 15 => some (5, 400)
  | 16 => some (5, 800)
  | 17 => some (50, 400)
  | 18 => some (200, 4000)
  | 19 => some (300, 3000)
  | 20 => some (100, 1500)
  | _ => none

/-- The value of an item by its number (R45); none for a number that names no item. -/
def CommRecord.item (r : CommRecord) : Nat → Option Nat
  | 1 => some r.wheelbase
  | 2 => some r.rollingRadius
  | 3 => some r.halfTrack
  | 4 => some r.propelMax
  | 5 => some r.baseSpeed
  | 6 => some r.retardMax
  | 7 => some r.gridPower
  | 8 => some r.gridResistance
  | 9 => some r.ratedPayload
  | 10 => some r.airDensity
  | 11 => some r.controlPeriod
  | 12 => some r.postPeriod
  | 13 => some r.minDriven
  | 14 => some r.governorGain
  | 15 => some r.rampUp
  | 16 => some r.rampDown
  | 17 => some r.lateralLimit
  | 18 => some r.continuousTorque
  | 19 => some r.heavyCeiling
  | 20 => some r.orphanCeiling
  | _ => none

/-- The record with an item replaced; as it was for a number that names no item. -/
def CommRecord.setItem (r : CommRecord) (v : Nat) : Nat → CommRecord
  | 1 => { r with wheelbase := v }
  | 2 => { r with rollingRadius := v }
  | 3 => { r with halfTrack := v }
  | 4 => { r with propelMax := v }
  | 5 => { r with baseSpeed := v }
  | 6 => { r with retardMax := v }
  | 7 => { r with gridPower := v }
  | 8 => { r with gridResistance := v }
  | 9 => { r with ratedPayload := v }
  | 10 => { r with airDensity := v }
  | 11 => { r with controlPeriod := v }
  | 12 => { r with postPeriod := v }
  | 13 => { r with minDriven := v }
  | 14 => { r with governorGain := v }
  | 15 => { r with rampUp := v }
  | 16 => { r with rampDown := v }
  | 17 => { r with lateralLimit := v }
  | 18 => { r with continuousTorque := v }
  | 19 => { r with heavyCeiling := v }
  | 20 => { r with orphanCeiling := v }
  | _ => r

/-- An item's value within its range (R45). -/
def CommRecord.itemInRange (r : CommRecord) (n : Nat) : Bool :=
  match itemRange n, r.item n with
  | some (lo, hi), some v => decide (lo ≤ v ∧ v ≤ hi)
  | none, none => true
  | _, _ => false

end Sys2Proof.Machine
end

