-- ==== Sys2Proof/Machine/Wire.lean ====
section
/-! DEFINITION. Posts on the line: the layout a sender sends (R2 to R8), the symbols that carry it (R1), how a
receiver reads them (R16), and the examination it makes of what it read (R17). -/

namespace Sys2Proof.Machine

/-! ### Sending (R2) -/

/-- The value of a field, 0 when it is absent (R2). -/
def fieldOr0 (x : Option Int) : Int := x.getD 0

/-- The presence byte of a post (R2). -/
def Body.presence : Body → Nat
  | .state r => (if r.wheelSpeed.isSome || r.centreSpeed.isSome then 1 else 0)
      + (if r.tripCause.isSome then 2 else 0)
  | .demand r => (if r.payload.isSome then 1 else 0) + (if r.frontRef.isSome then 2 else 0)
  | _ => 0

/-- The body bytes in use, before any fill (R2, R8). -/
def Body.content : Body → List Byte
  | .state r =>
      [byte r.stationState.code, byte r.mode.code, byte r.topLevel, byte r.slip.code]
        ++ signed16 (fieldOr0 r.wheelSpeed) ++ signed16 (fieldOr0 r.centreSpeed)
        ++ signed16 r.torque ++ bytes16 r.offer ++ signed16 r.gridTemp
        ++ [byte (yesNo r.brake), byte (TripCause.fieldCode r.tripCause)]
  | .demand r =>
      [byte r.direction.code, byte (yesNo r.hold)] ++ bytes16 r.propel ++ bytes16 r.retard
        ++ signed16 r.steer ++ bytes16 r.ceiling ++ bytes16 (r.payload.getD 0)
        ++ signed16 (fieldOr0 r.frontRef)
  | .alert kind args => [byte kind.code, byte args.length] ++ args.map byte
  | .order kind target argument => [byte kind.code, byte target, byte argument, 0]
  | .config target item value => [byte target, byte item] ++ bytes16 value
  | .query target page index => [byte target, byte page.code, byte index, 0]
  | .report page index data => [byte page.code, byte index, byte data.length] ++ data

/-- The smallest length code L whose body, 2 × L + 4 bytes, holds `used` bytes (R2). -/
def lengthCode (used : Nat) : Nat := (used - 3) / 2

/-- The length code of a post (R2): for every kind, the smallest that holds the bytes in use. -/
def Body.lengthCode (b : Body) : Nat := Machine.lengthCode b.content.length

/-- The body: the bytes in use and fill of value 0 (R2). -/
def Body.bytes (b : Body) : List Byte :=
  b.content ++ List.replicate (2 * b.lengthCode + 4 - b.content.length) 0

/-- Header and body of a post (R2). -/
def unchecked (source seq : Nat) (b : Body) : List Byte :=
  [byte b.kind.code, byte source, byte (16 * seq + b.lengthCode), byte b.presence] ++ b.bytes

/-- The whole post with its check code (R2, R3). -/
def wire (source seq : Nat) (b : Body) : List Byte :=
  unchecked source seq b ++ crcBytes (unchecked source seq b)

/-- A post as it is sent. -/
def Post.wire (p : Post) : List Byte := Machine.wire p.source.num p.seq p.body

/-! ### Line and symbols (R1): a level is true for active, false for idle -/

/-- The level of the line when stations drive these levels: active as soon as one drives it active (R1). -/
def lineLevel (drives : List Bool) : Bool := drives.any id

/-- The start symbol: 14 bit-times active, then 2 idle (R1). -/
def startLevels : List Bool := List.replicate 14 true ++ [false, false]

/-- The ten levels of a byte: a mark bit, the data bits from the most significant, a space bit (R1). -/
def byteLevels (b : Byte) : List Bool :=
  [true, b.getLsbD 7, b.getLsbD 6, b.getLsbD 5, b.getLsbD 4, b.getLsbD 3, b.getLsbD 2, b.getLsbD 1, b.getLsbD 0,
    false]

/-- The levels a sender drives for a post, bit-time by bit-time (R1). -/
def postLevels (bytes : List Byte) : List Bool := startLevels ++ bytes.flatMap byteLevels

/-- The idle bit-times at the end of a row of levels: the idle time after it (R1, log 34). -/
def idleTail (levels : List Bool) : Nat := (levels.reverse.takeWhile (!·)).length

/-- The byte of eight levels, most significant bit first (R1). -/
def byteOfLevels (bits : List Bool) : Byte := byte (bits.foldl (fun n b => 2 * n + b.toNat) 0)

/-- The receiver's reading of bytes back to back (R16): a mark bit read idle ends it (truncated), so does a space
bit read active (framing violated), and so does the space bit of the last check byte. `got` are the bytes read
before; the answer has the levels that follow the reception, and there is none while it goes on. -/
def readBytes (got : List Byte) : List Bool → Option (Reception × List Bool)
  | false :: rest => some (.truncated got, rest)
  | true :: b7 :: b6 :: b5 :: b4 :: b3 :: b2 :: b1 :: b0 :: space :: rest =>
    let read := got ++ [byteOfLevels [b7, b6, b5, b4, b3, b2, b1, b0]]
    if space then some (.framing read, rest)
    else if postLength read = some read.length then some (.whole read, rest)
    else readBytes read rest
  | _ => none

/-- A reception from the levels since the start symbol's active run ended: the first mark falls 2 bit-times
later (R16). -/
def receiveLevels (levels : List Bool) : Option (Reception × List Bool) := readBytes [] (levels.drop 2)

/-- Whether a reception was read to its end (R16). -/
def Reception.isWhole : Reception → Bool
  | .whole _ => true
  | .truncated _ | .framing _ => false

/-! ### The test posts of the self-check (R20) -/

/-- The body of a test post: a QUERY to the own number for page IDENTITY, index 0. -/
def testBody (number : Nat) : Body := .query number .identity 0

/-- Test post B, clean (R20). -/
def testPostB (number : Nat) : List Byte := wire number 0 (testBody number)

/-- Test post A: its body byte 2 is replaced, after the check was computed, by its value plus 90 (R20). -/
def testPostA (number : Nat) : List Byte :=
  (testPostB number).modify 6 (fun b => b + 90)

/-! ### Form examination (R17, step 3) -/

/-- A field that the presence byte does not flag holds 0 (R17). -/
def flagged (flag : Bool) (v : Int) : Option (Option Int) :=
  if flag then some (some v) else if v = 0 then some none else none

/-- A trip cause field: flagged it holds a cause, unflagged it holds 0 (R17). -/
def flaggedCause (flag : Bool) (code : Nat) : Option (Option TripCause) :=
  if flag then (TripCause.ofCode code).map some else if code = 0 then some none else none

/-- A yes/no field (R2). -/
def readYesNo : Nat → Option Bool
  | 0 => some false
  | 1 => some true
  | _ => none

/-- The body of a STATE post; any top level is of right form (log 13). -/
def parseState (presence : Nat) : List Byte → Option Body
  | [st, md, tl, sc, w1, w0, c1, c0, t1, t0, o1, o0, g1, g0, br, tc] => do
    let st ← StationState.ofCode st.toNat
    let md ← Mode.ofCode md.toNat
    let sc ← SlipClass.ofCode sc.toNat
    let w ← flagged (presence % 2 = 1) (int16 w1 w0)
    let c ← flagged (presence % 2 = 1) (int16 c1 c0)
    let br ← readYesNo br.toNat
    let tc ← flaggedCause (2 ≤ presence) tc.toNat
    if presence ≤ 3 then
      some (.state ⟨st, md, tl.toNat, sc, w, c, int16 t1 t0, nat16 o1 o0, int16 g1 g0, br, tc⟩)
    else none
  | _ => none

/-- The body of a DEMAND post. -/
def parseDemand (presence : Nat) : List Byte → Option Body
  | [dir, hold, p1, p0, r1, r0, s1, s0, c1, c0, l1, l0, f1, f0] => do
    let dir ← Direction.ofCode dir.toNat
    let hold ← readYesNo hold.toNat
    let l ← flagged (presence % 2 = 1) (nat16 l1 l0)
    let f ← flagged (2 ≤ presence) (int16 f1 f0)
    if presence ≤ 3 then
      some (.demand ⟨dir, hold, nat16 p1 p0, nat16 r1 r0, int16 s1 s0, nat16 c1 c0,
        l.map Int.toNat, f⟩)
    else none
  | _ => none

/-- Whether an argument count is legal for its alert kind (R6). R17 says 'for its alert kind' alone: a
CONTEXT_TAKEN of 1 to 8 arguments is accepted whatever its class, though R6 has 1 for every class but SENSOR_FAULT
(log 14). -/
def AlertKind.legalCount (k : AlertKind) (count : Nat) : Bool :=
  match k with
  | .contextTaken => decide (1 ≤ count ∧ count ≤ 8)
  | .contextCleared | .trip | .configRefused => decide (count = 1)
  | .stopTaken | .holdEntered | .holdLeft | .duplicateHeard | .blowerFault => decide (count = 0)

/-- Whether the coded arguments of an alert hold values their tables define (R2, R6, R17): a class first
and channels after it for CONTEXT_TAKEN, whatever the class, a class for CONTEXT_CLEARED, a cause for TRIP
(log 14). -/
def AlertKind.legalArgs (k : AlertKind) (args : List Nat) : Bool :=
  match k with
  | .contextTaken => (args.take 1).all (fun a => decide (a ≤ 7))
      && (args.drop 1).all (fun a => decide (1 ≤ a ∧ a ≤ 7))
  | .contextCleared => args.all (fun a => decide (a ≤ 7))
  | .trip => args.all (fun a => decide (1 ≤ a ∧ a ≤ 3))
  | _ => true

/-- The body of an ALERT post: its length code is the smallest that holds the arguments (R2, R17, log 14). -/
def parseAlert : List Byte → Option Body
  | kind :: count :: rest => do
    let k ← AlertKind.ofCode kind.toNat
    let args := (rest.take count.toNat).map BitVec.toNat
    if k.legalCount count.toNat && k.legalArgs args
        && decide (rest.length + 2 = 2 * lengthCode (2 + count.toNat) + 4) then
      some (.alert k args)
    else none
  | _ => none

/-- A class code 0 to 7 where the order is an ACKNOWLEDGE (R2, R7); the argument of another order is not
a coded field (log 14). -/
def OrderKind.legalArgument (k : OrderKind) (a : Nat) : Bool :=
  match k with
  | .acknowledge => decide (a ≤ 7)
  | _ => true

/-- A target of a CONFIG or QUERY: a station 1 to 4 (R2). -/
def stationTarget (t : Nat) : Bool := decide (1 ≤ t ∧ t ≤ 4)

/-- The body of an ORDER post: target a station 1 to 4 or ALL (R2). -/
def parseOrder : List Byte → Option Body
  | [kind, target, argument, _] => do
    let k ← OrderKind.ofCode kind.toNat
    if (stationTarget target.toNat || target.toNat == targetAll) && k.legalArgument argument.toNat then
      some (.order k target.toNat argument.toNat)
    else none
  | _ => none

/-- The body of a CONFIG post. -/
def parseConfig : List Byte → Option Body
  | [target, item, v1, v0] =>
    if stationTarget target.toNat then some (.config target.toNat item.toNat (nat16 v1 v0)) else none
  | _ => none

/-- The body of a QUERY post. -/
def parseQuery : List Byte → Option Body
  | [target, page, index, _] => do
    let page ← Page.ofCode page.toNat
    if stationTarget target.toNat then some (.query target.toNat page index.toNat) else none
  | _ => none

/-- The body of a REPORT post: the record length is at most 31 and the length code is the smallest that
holds it (R8, R17, log 14). -/
def parseReport : List Byte → Option Body
  | page :: index :: count :: rest => do
    let page ← Page.ofCode page.toNat
    if decide (count.toNat ≤ 31) && decide (rest.length + 3 = 2 * lengthCode (3 + count.toNat) + 4) then
      some (.report page index.toNat (rest.take count.toNat))
    else none
  | _ => none

/-- The body of a post of a kind. A kind without optional fields has presence 0; a length code that is not
the kind's gives no body (R17). -/
def parseBody (kind : PostKind) (presence : Nat) (body : List Byte) : Option Body :=
  match kind with
  | .state => parseState presence body
  | .demand => parseDemand presence body
  | .alert => if presence = 0 then parseAlert body else none
  | .order => if presence = 0 then parseOrder body else none
  | .config => if presence = 0 then parseConfig body else none
  | .query => if presence = 0 then parseQuery body else none
  | .report => if presence = 0 then parseReport body else none

/-- Header and body of a post read as named fields, if their form is right (R17, step 3). -/
def parsePost : List Byte → Option Post
  | kind :: source :: seqLen :: presence :: body => do
    let k ← PostKind.ofCode kind.toNat
    let src ← StationId.ofCode source.toNat
    let b ← parseBody k presence.toNat body
    some ⟨src, seqLen.toNat / 16, b⟩
  | _ => none

/-! ### The three steps of R17 -/

/-- Steps 2 and 3 on a whole post: a wrong check code, then a wrong form. -/
def examineWhole (bytes : List Byte) : RxEntry :=
  let covered := bytes.take (bytes.length - 2)
  if crcBytes covered != bytes.drop (bytes.length - 2) then .check bytes
  else match parsePost covered with
    | some p => .good p
    | none => .form bytes

/-- The examination of an arriving post (R17): the first step that fails decides the tag. -/
def examine : Reception → RxEntry
  | .truncated bytes | .framing bytes => .form bytes
  | .whole bytes => examineWhole bytes

/-- The tag of an entry as the self-check receives it (R20); a LINE_HELD marker is none of the three. -/
def RxEntry.tag : RxEntry → Option Tag
  | .good _ => some .untagged
  | .check _ => some .check
  | .form _ => some .form
  | .lineHeld => none

/-- The tag the receiver gives a looped test post (R20): its levels, those at the bit-times of `flips` read as the
other level, run through framing, check and form examination; after the post the loopback path is idle. -/
def loopedTag (post : List Byte) (flips : List Nat) : Tag :=
  let levels := ((postLevels post).drop 14).mapIdx (fun i level => level != flips.contains i) ++ [false]
  ((receiveLevels levels).bind (fun x => (examine x.1).tag)).getD .form

end Sys2Proof.Machine
end

