-- ==== Sys2Proof/Machine/Flags.lean ====
section
/-! DEFINITION. What follows from the state and is not stored apart: the side, the indicators, the output lines,
the limits in force, the demand in force, the driven peers, the arbiter's candidate and its gap. -/

namespace Sys2Proof.Machine

/-! ### Station control -/

/-- An odd station number is a left-hand station, an even number a right-hand one (R41). -/
def State.side (s : State) : Side := if s.station.number % 2 = 1 then .left else .right

/-- The lateral offset y of the wheel (R41, R71). -/
def lateralOffset (side : Side) (halfTrack : Nat) : Int :=
  match side with
  | .left => halfTrack
  | .right => -(halfTrack : Int)

/-- The strap values that are station numbers (R41). -/
def legalNumber (n : Nat) : Bool := decide (1 ≤ n ∧ n ≤ 4)

/-- The states in which timers, absorber, receiver and protection unit work: every state except RESET and
ISOLATED (R16, R24, R30, R54, R81, R158). -/
def StationState.live : StationState → Bool
  | .reset | .isolated => false
  | _ => true

/-- The states in which STATE posts are built and the arbiter sends (R4, R15, R39). -/
def StationState.posts : StationState → Bool
  | .commission | .ready | .run | .held | .tripped => true
  | _ => false

/-- The own state counts among the usable driven stations in RUN and HELD (R32). -/
def StationState.driven : StationState → Bool
  | .run | .held => true
  | _ => false

/-- The gate inhibit output: released only in RUN (R39, R50). -/
def State.gateInhibit (s : State) : Bool := s.station.state != .run

/-! ### Bus port -/

/-- Whether a queued entry carries a tag CHECK, FORM or LINE_HELD (R18). -/
def RxEntry.tagged : RxEntry → Bool
  | .good _ => false
  | _ => true

/-- The queued-error indicator (R18). -/
def State.queuedError (s : State) : Bool := s.bus.rx.any RxEntry.tagged

/-- The gap of a post by its kind and the sender's number (R10). -/
def gap (kind : PostKind) (number : Nat) : Nat :=
  match kind with
  | .alert | .order => 12 + 2 * number
  | .state | .demand => 24 + 2 * number
  | .config | .query | .report => 36 + 2 * number

/-- The arbiter's candidate (R12): the oldest urgent post, else the STATE slot, else the REPORT slot. -/
def BusPort.candidate (b : BusPort) : Option Body :=
  match b.urgent with
  | p :: _ => some p
  | [] => match b.stateSlot with
    | some p => some p
    | none => b.reportSlot

/-- The bytes being driven onto the line by an attempt in progress (R11). -/
def State.driving (s : State) : Option (List Byte) := s.bus.tx.bind TxRegister.attempt

/-! ### Protection unit -/

/-- The propel ceiling of a class, in per mille (R155). -/
def ProtClass.propelCeiling : ProtClass → Nat
  | .stop => 0 | .gridHot => 200 | .windingHot => 400 | .slipPersist => 500
  | .payloadOver => 600 | .peerLoss => 700 | .sensorFault => 800 | .base => 1000

/-- The speed ceiling of a class, in cm/s (R155). -/
def ProtClass.speedCeiling : ProtClass → Option Nat
  | .stop => some 0 | .gridHot => some 417 | .windingHot => some 556 | .slipPersist => some 695
  | .payloadOver => some 833 | .peerLoss => some 972 | .sensorFault => some 1111 | .base => none

/-- The minimum hold of a class, in control periods (R155). -/
def ProtClass.minHold : ProtClass → Nat
  | .stop => 0 | .gridHot => 2000 | .windingHot => 2000 | .slipPersist => 200
  | .payloadOver => 0 | .peerLoss => 400 | .sensorFault => 400 | .base => 0

/-- The class of the top context (R156). -/
def Protection.top (p : Protection) : ProtClass :=
  match p.stack with
  | c :: _ => c.cls
  | [] => .base

/-- The top level (R156). -/
def Protection.topLevel (p : Protection) : Nat := p.top.level

/-- Whether a class is on the response stack. -/
def Protection.onStack (p : Protection) (c : ProtClass) : Bool := p.stack.any (fun x => x.cls == c)

/-- The propel ceiling in force: the least of the contexts on the stack (R166). -/
def Protection.propelCeiling (p : Protection) : Nat :=
  p.stack.foldr (fun c m => min c.cls.propelCeiling m) 1000

/-- The speed ceiling in force: the least of the contexts that have one (R166). -/
def Protection.speedCeiling (p : Protection) : Option Nat :=
  p.stack.foldr (fun c m => match c.cls.speedCeiling with
    | none => m
    | some v => some (minOpt v m)) none

/-- Whether a brake reason is held (R167). -/
def State.brakeReason (s : State) : Bool :=
  s.prot.onStack .stop || s.prot.heldReason || (s.station.state == .tripped) || s.prot.shortfallReason

/-- The brake request output (R39, R167): by reasons in RUN, asserted in every other state. -/
def State.brakeRequest (s : State) : Bool :=
  if s.station.state = .run then s.brakeReason else true

/-- Whether a control update is in flight (R82). -/
def State.inFlight (s : State) : Bool := s.gov.update.isSome

/-! ### Peer view -/

/-- The presence that an age gives an entry that is not ABSENT (R30). -/
def presenceOfAge (age : Nat) : Presence :=
  if age ≤ 2 then .fresh else if age ≤ 9 then .aged else .lost

/-- The STATE record of a driven peer (R32): FRESH or AGED, and its stored state RUN or HELD. -/
def PeerEntry.drivenRecord (e : PeerEntry) : Option StateRecord :=
  match e.presence, e.contents with
  | .fresh, .state r | .aged, .state r => if r.stationState.driven then some r else none
  | _, _ => none

/-- The STATE records of the driven peers, in ascending station number (R32). -/
def Peers.driven (p : Peers) : List StateRecord := p.wheels.filterMap PeerEntry.drivenRecord

/-- The usable driven count n (R32). -/
def State.usableCount (s : State) : Nat :=
  s.peers.entries.driven.length + (if s.station.state.driven then 1 else 0)

/-- The values that stand for a DEMAND record where entry 0 holds none (R33). -/
def DemandRecord.none : DemandRecord where
  direction := .neutral
  hold := false
  propel := 0
  retard := 0
  steer := 0
  ceiling := 0
  payload := Option.none
  frontRef := Option.none

/-- The stored DEMAND record of entry 0, or the values of R33 where it holds none. -/
def PeerEntry.demandRecord (e : PeerEntry) : DemandRecord :=
  match e.contents with
  | .demand r => r
  | _ => .none

/-- The demand in force (R33). -/
def demandInForce (host : PeerEntry) (orphanCeiling : Nat) : DemandInForce :=
  let r := host.demandRecord
  match host.presence with
  | .fresh => ⟨r, .posted, true⟩
  | .aged => ⟨r, .held, true⟩
  | .lost | .absent =>
    ⟨{ r with propel := 0, ceiling := min r.ceiling orphanCeiling, payload := none, frontRef := none },
      .fallback, false⟩

/-- The demand in force of the part (R33). -/
def State.demand (s : State) : DemandInForce :=
  demandInForce s.peers.entries.e0 s.station.record.orphanCeiling

/-- The direction sign (00_scope.md "Speeds and travel terms", R88): +1 for FORWARD, −1 for REVERSE, and in
NEUTRAL the sign of the reference speed, +1 at 0. -/
def directionSign (d : Direction) (vRef : Int) : Int :=
  match d with
  | .forward => 1
  | .reverse => -1
  | .neutral => signOrPlus vRef

/-! ### Grid section -/

/-- The frame the superframe in flight is in, 1 to 64: 125 bit-times to a frame (R1, R122). -/
def Grid.frame (g : Grid) : Nat := g.elapsed / 125 + 1

/-- The count of the frame, 1 to 64: 64 counts to 125 bit-times (R1, R122). -/
def Grid.count (g : Grid) : Nat := g.elapsed % 125 * 64 / 125 + 1

/-- The model temperature T_m (R131): none while the model is unset. -/
def Grid.modelTemp (g : Grid) : Option Int := g.theta.map (fun t => t.tdiv 65536)

/-- Whether the extra counts `ext` stretch a frame (R125). -/
def stretched (ext frame : Nat) : Bool :=
  (ext / 32 % 2 == 1 && frame % 2 == 1)
    || (ext / 16 % 2 == 1 && frame % 4 == 2)
    || (ext / 8 % 2 == 1 && frame % 8 == 4)
    || (ext / 4 % 2 == 1 && frame % 16 == 8)
    || (ext / 2 % 2 == 1 && frame % 32 == 16)
    || (ext % 2 == 1 && frame % 64 == 32)

/-- The counts of a frame for which a duty conducts (R125). -/
def conductingCounts (duty frame : Nat) : Nat :=
  duty / 64 + (if stretched (duty % 64) frame then 1 else 0)

/-- The chopper gate output: conducting during the first counts of each frame (R125); off in RESET, where
no superframe is in flight (R122). -/
def State.chopperGate (s : State) : Bool :=
  s.station.state != .reset && decide (s.grid.count ≤ conductingCounts s.grid.duty s.grid.frame)

/-- The blower stage output carries the target stage (R134). R136 gives stage 0 only for the release of the reset
line: while it is asserted the output keeps the stage it had (DESIGN CHOICE, log 35). -/
def State.blowerStage (s : State) : Nat := s.grid.target

/-! ### Load accounting -/

/-- A_KNEE, A_LIM and A_MAX (R141, R146). -/
def aKnee : Nat := 30000000
def aLim : Nat := 45000000
def aMax : Nat := 67108863

/-- The winding derate w of an accumulator (R146). -/
def derateOf (a : Nat) : Nat :=
  if a ≤ aKnee then 1024 else if a < aLim then 1024 * (aLim - a) / (aLim - aKnee) else 0

/-- The raise condition of WINDING_HOT (R148). -/
def State.windingHot (s : State) : Bool :=
  let r := s.meas.channels.windingTemp
  decide (aLim ≤ s.load.accumulator) || (!r.faulted && decide (2000 ≤ r.value))

/-- The clear condition of WINDING_HOT (R149). -/
def State.windingClear (s : State) : Bool :=
  let r := s.meas.channels.windingTemp
  decide (s.load.accumulator < aKnee) && (r.faulted || decide (r.value < 1800))

/-- The payload percentage and class (R150). -/
def classify (payload : Option Nat) (rated : Nat) : Option Nat × PayloadClass :=
  match payload with
  | none => (none, .unknown)
  | some p =>
    let pc := p * 100 / rated
    (some pc, if pc ≤ 110 then .normal else if pc ≤ 120 then .heavy else .over)

/-- HEAVY, OVER and UNKNOWN bring the heavy limits (R92, R98, R152). -/
def PayloadClass.limited : PayloadClass → Bool
  | .normal => false
  | _ => true

/-- The clear condition of PAYLOAD_OVER, from the latest report (R153). -/
def State.payloadClear (s : State) : Bool :=
  match s.load.percentage with
  | some pc => (s.load.standing == .posted) && decide (pc ≤ 115)
  | none => false

/-- The raise condition of GRID_HOT: the latest T_g at or above T_LIM (R133). -/
def State.gridHot (s : State) : Bool :=
  match s.grid.gridTemp with
  | some t => decide (6000 ≤ t)
  | none => false

/-- The clear condition of GRID_HOT (R133, R155): T_g below T_RELEASE; T_g none is not below it. -/
def State.gridClear (s : State) : Bool :=
  match s.grid.gridTemp with
  | some t => decide (t < 5500)
  | none => false

/-- The raise condition of PEER_LOSS (R159). -/
def State.peerLoss (s : State) : Bool :=
  s.station.state.driven && decide (s.usableCount < s.station.record.minDriven) && s.prot.grace == 0

/-- The clear condition of a class that is judged at control-period expiries (R155, R163). -/
def State.clearCondition (s : State) : ProtClass → Bool
  | .gridHot => s.gridClear
  | .windingHot => s.windingClear
  | .slipPersist => decide (100 ≤ s.gov.grip)
  | .payloadOver => s.payloadClear
  | .peerLoss => decide (s.station.record.minDriven ≤ s.usableCount)
  | .stop | .sensorFault | .base => false

/-- The classes whose clear-ready is judged at control-period expiries (R163). -/
def ProtClass.judged : ProtClass → Bool
  | .gridHot | .windingHot | .slipPersist | .payloadOver | .peerLoss => true
  | .stop | .sensorFault | .base => false

/-- HOLD_SPEED, 30 cm/s (R51): whether the truck stands by the reference speed the governor holds. -/
def State.standing (s : State) : Bool := decide (s.gov.uRef.natAbs ≤ 30)

end Sys2Proof.Machine
end

