-- ==== Sys2Proof/Machine/Geometry.lean ====
section
/-! DEFINITION. Steering geometry (chapter Steering Geometry): the tangent table, the geometry record as a
function of its inputs, and the centre speed. -/

namespace Sys2Proof.Machine

/-- The table of tangents, 4096 × tan of each whole degree from 0 to 45 (R69). -/
def tangentTable : List Nat :=
  [0, 71, 143, 215, 286, 358, 431, 503, 576, 649,
   722, 796, 871, 946, 1021, 1098, 1175, 1252, 1331, 1410,
   1491, 1572, 1655, 1739, 1824, 1910, 1998, 2087, 2178, 2270,
   2365, 2461, 2559, 2660, 2763, 2868, 2976, 3087, 3200, 3317,
   3437, 3561, 3688, 3820, 3955, 4096]

/-- The table's entry for k degrees. -/
def tangentEntry (k : Nat) : Nat := tangentTable.getD k 0

/-- The magnitude of the tangent of an angle of `a` tenths of a degree (R70). -/
def tangentMagnitude (a : Nat) : Nat :=
  let k := a / 10
  let f := a - 10 * k
  if f = 0 then tangentEntry k
  else tangentEntry k + (tangentEntry (k + 1) - tangentEntry k) * f / 10

/-- tanT, with the sign of the angle (R70). -/
def tangent (steer : Int) : Int := steer.sign * (tangentMagnitude steer.natAbs : Int)

/-- The turn factor F (R71). -/
def turnFactor (side : Side) (halfTrack wheelbase : Nat) (tanT : Int) : Int :=
  clampInt 2048 6144 (4096 + (lateralOffset side halfTrack * tanT).tdiv wheelbase)

/-- The role of the wheel (R72). -/
def roleOf (side : Side) (steer : Int) : Role :=
  if steer = 0 then .straight
  else match side with
    | .left => if 0 < steer then .outer else .inner
    | .right => if 0 < steer then .inner else .outer

/-- The largest v below 4096 with v × v ≤ x, bit by bit. -/
def rootBelow4096 (x : Nat) : Nat :=
  [2048, 1024, 512, 256, 128, 64, 32, 16, 8, 4, 2, 1].foldl
    (fun v b => if (v + b) * (v + b) ≤ x then v + b else v) 0

/-- The turn ceiling (R75): the largest whole v with v × v ≤ X, capped at 3000. -/
def turnCeiling (lateralLimit wheelbase : Nat) (tanT : Int) : Option Nat :=
  if tanT = 0 then none
  else some (min 3000 (rootBelow4096 (lateralLimit * wheelbase * 4096 / (10 * tanT.natAbs))))

/-- The differential d (R76). -/
def differential (enabled : Bool) (tanT : Int) : Nat :=
  if enabled then min 150 (400 * tanT.natAbs / 4096) else 0

/-- The geometry record of the demand in force, the side and the commissioning record (R66, R67). -/
def geometryOf (d : DemandInForce) (side : Side) (r : CommRecord) : Geometry :=
  let tanT := tangent d.demand.steer
  { steer := d.demand.steer
    tanT := tanT
    turnFactor := turnFactor side r.halfTrack r.wheelbase tanT
    role := roleOf side d.demand.steer
    turnCeiling := turnCeiling r.lateralLimit r.wheelbase tanT
    diffEnabled := d.diffEnabled
    diff := differential d.diffEnabled tanT }

/-- The geometry record that the part's inputs call for (R67). -/
def State.geometry (s : State) : Geometry := geometryOf s.demand s.side s.station.record

/-- The recomputation of R67. -/
def State.recomputeGeometry (s : State) : State := { s with geo := s.geometry }

/-- The centre speed of a wheel speed (R74). -/
def centreSpeed (wheel turnFactor : Int) : Int := (wheel * 4096).tdiv turnFactor

end Sys2Proof.Machine
end

