-- ==== Sys2Proof/Machine/Ops.lean ====
section
/-! DEFINITION. The named operations over the state that several commands share: counting, offering posts,
faulting and returning channels, raising, taking, deferring, withdrawing and popping protection classes, trip
causes, changes of station state, isolation, and the report of R31. -/

namespace Sys2Proof.Machine

/-! ### Counting and offering -/

/-- A counter's increase by 1 (R183). -/
def State.bump (s : State) (c : CounterId) : State := { s with counters := s.counters.bump c }

/-- A post offered to the urgent queue (R13, R15). -/
def State.offerUrgent (s : State) (b : Body) : State :=
  if s.station.state = .isolated then s
  else if s.bus.urgent.length < 4 then { s with bus := { s.bus with urgent := s.bus.urgent ++ [b] } }
  else s.bump .urgentOverflows

/-- An ALERT offered to the urgent queue (R6). -/
def State.alert (s : State) (k : AlertKind) (args : List Nat) : State := s.offerUrgent (.alert k args)

/-- A STATE post enters the STATE slot (R14). -/
def State.offerState (s : State) (b : Body) : State :=
  let s' : State := { s with bus := { s.bus with stateSlot := some b } }
  if s.bus.stateSlot.isSome then s'.bump .stateReplacements else s'

/-- A REPORT post enters the REPORT slot (R14, R179). -/
def State.offerReport (s : State) (b : Body) : State :=
  { s with bus := { s.bus with reportSlot := some b } }

/-- An arrival at the receive queue (R18). -/
def State.joinRx (s : State) (e : RxEntry) : State :=
  if s.bus.rx.length < 8 then
    let s' : State := { s with bus := { s.bus with rx := s.bus.rx ++ [e] } }
    if e.tagged then s' else s'.bump .receivedGood
  else s.bump .overruns

/-- A refused order is counted (R28, R182). -/
def State.refuseOrder (s : State) : State := s.bump .refusedOrders

/-! ### The line (R1, R16) -/

/-- The line is idle for `n` further bit-times (R1): the idle time grows, and from 2 idle bit-times on the receiver
looks for a start symbol (R16, log 33). It cannot be while it is held, while a post is being received and while
one is being driven. -/
def State.idleFor (s : State) (n : Nat) : State :=
  { s with bus :=
      if s.bus.lineHeld || s.bus.receiving || s.driving.isSome then s.bus
      else { s.bus with
        idleTime := s.bus.idleTime + n
        looking := s.bus.looking || decide (2 ≤ s.bus.idleTime + n) } }

/-! ### Channel records -/

/-- A channel record replaced. -/
def State.setChannel (s : State) (c : Channel) (r : ChannelRecord) : State :=
  { s with meas := { s.meas with channels := s.meas.channels.set r c } }

/-- A channel's value replaced. -/
def State.setChannelValue (s : State) (c : Channel) (v : Int) : State :=
  s.setChannel c { s.meas.channels.get c with value := v }

/-- The expected wheel speed in cm/s, of the latest completed update, 0 when there is none (R61, R80). -/
def Governor.expectedWheel (g : Governor) : Int := g.uExp.getD 0 * g.expSign

/-- The fallback a channel takes at the moment it faults (R60, R61). -/
def State.fallback (s : State) (c : Channel) : Int :=
  match c with
  | .wheelSpeed => s.gov.expectedWheel
  | .torqueFb => s.gov.output
  | .linkVoltage => 1800
  | .gridAirTemp => 500
  | .windingTemp | .gridElementTemp | .gridCurrent => ((s.meas.channels.get c).lastGood).getD 0

/-- The two fallbacks that follow the governor: a faulted WHEEL_SPEED takes the expected wheel speed, a
faulted TORQUE_FB the output being driven (R61). -/
def State.followWheel (s : State) : State :=
  if s.meas.channels.wheelSpeed.faulted then s.setChannelValue .wheelSpeed s.gov.expectedWheel else s

/-- As `followWheel`, for TORQUE_FB (R61). -/
def State.followTorque (s : State) : State :=
  if s.meas.channels.torqueFb.faulted then s.setChannelValue .torqueFb s.gov.output else s

/-- A channel's return to service (R63): the marker is cleared, the channel leaves the fault-order list,
and the value becomes the last good one if there is one. -/
def State.returnChannel (s : State) (c : Channel) : State :=
  let r := s.meas.channels.get c
  { s with meas := { s.meas with
      channels := s.meas.channels.set { r with faulted := false, value := r.lastGood.getD r.value } c
      faultOrder := s.meas.faultOrder.erase c } }

/-! ### Sets of classes, lowest level first -/

/-- A class joins a set. -/
def insertClass (c : ProtClass) : List ProtClass → List ProtClass
  | [] => [c]
  | d :: rest =>
    if c = d then d :: rest
    else if c.level < d.level then c :: d :: rest
    else d :: insertClass c rest

/-! ### Raising, taking, popping (R158 to R165) -/

/-- The ALERT of a take (R6, R161). -/
def takeAlert (c : ProtClass) (channels : List Channel) : Body :=
  match c with
  | .stop => .alert .stopTaken []
  | .sensorFault => .alert .contextTaken (c.level :: channels.map Channel.code)
  | _ => .alert .contextTaken [c.level]

/-- The context a take pushes (R156, R161). -/
def State.newContext (s : State) (c : ProtClass) : Context where
  cls := c
  entrySeq := s.bus.seq
  entrySpeed := s.gov.uRef
  entryTorque := s.gov.output
  hold := c.minHold
  clearReady := false
  channels := if c = .sensorFault then s.meas.faultOrder else []

/-- A take (R161): a new context on top of the stack, the class out of the pending set, one ALERT, and a
count for STOP. -/
def State.take (s : State) (c : ProtClass) : State :=
  let ctx := s.newContext c
  let s1 : State := { s with prot := { s.prot with
    stack := ctx :: s.prot.stack
    pendingSet := s.prot.pendingSet.erase c } }
  let s2 := s1.offerUrgent (takeAlert c ctx.channels)
  if c = .stop then s2.bump .stopTakes else s2

/-- The refresh of a context on the stack (R160, case 1), with the channel that was raised if any. -/
def Context.refresh (x : Context) (ch : Option Channel) : Context :=
  { x with
    hold := x.cls.minHold
    clearReady := false
    channels := match ch with
      | some k => if x.channels.contains k then x.channels else x.channels ++ [k]
      | none => x.channels }

/-- The refresh of a class on the stack (R160, case 1). -/
def State.refresh (s : State) (c : ProtClass) (ch : Option Channel) : State :=
  { s with prot := { s.prot with
      stack := s.prot.stack.map (fun x => if x.cls = c then x.refresh ch else x) } }

/-- A raise judged by the cases of R160, told whether a control update counts as in flight. -/
def State.raiseWith (s : State) (inFlight : Bool) (c : ProtClass) (ch : Option Channel) : State :=
  if s.prot.onStack c then s.refresh c ch
  else if s.prot.pendingSet.contains c || s.prot.deferredSet.contains c then s
  else if c.level < s.prot.topLevel then
    if inFlight then
      { s with prot := { s.prot with deferredSet := insertClass c s.prot.deferredSet } }
    else s.take c
  else { s with prot := { s.prot with pendingSet := insertClass c s.prot.pendingSet } }

/-- A raise of a class other than STOP (R160); raises reach the protection unit in every station state
except RESET and ISOLATED (R158). -/
def State.raise (s : State) (c : ProtClass) (ch : Option Channel) : State :=
  if s.station.state.live then s.raiseWith s.inFlight c ch else s

/-- A pending class whose raise condition no longer holds is withdrawn (R162). -/
def State.withdraw (s : State) (c : ProtClass) : State :=
  { s with prot := { s.prot with pendingSet := s.prot.pendingSet.erase c } }

/-- A raise if the condition holds, a withdrawal if it does not (R158, R162). -/
def State.judge (s : State) (c : ProtClass) (holds : Bool) : State :=
  if holds then s.raise c none
  else if s.station.state.live then s.withdraw c else s

/-- A STOP is received (R168): a second STOP is counted, a STOP in RUN during an update is deferred, any
other is taken. -/
def State.receiveStop (s : State) : State :=
  if !s.station.state.live then s
  else if s.prot.onStack .stop || s.prot.deferredSet.contains .stop then s.bump .stopTakes
  else if s.station.state == .run && s.inFlight then
    { s with prot := { s.prot with deferredSet := insertClass .stop s.prot.deferredSet } }
  else s.take .stop

/-- What follows a context's removal from the top (R165): the ALERT, and for SENSOR_FAULT the return of its
channels to service; the fault-order list has then changed, which may withdraw a pending SENSOR_FAULT (R162). -/
def State.afterPop (s : State) (x : Context) : State :=
  let s1 := s.alert .contextCleared [x.cls.level]
  if x.cls = .sensorFault then
    let s2 := x.channels.foldl State.returnChannel s1
    if s2.meas.faultOrder = [] then s2.withdraw .sensorFault else s2
  else s1

/-- The lowest class of a set below a level (R165). -/
def lowestBelow (level : Nat) : List ProtClass → Option ProtClass
  | [] => none
  | c :: _ => if c.level < level then some c else none

/-- What becomes of the pending set once the top is no longer clear-ready (R165): with no update in flight
the lowest class below the top level is taken; with one, every class below it is deferred. -/
def State.promotePending (s : State) : State :=
  if s.inFlight then
    { s with prot := { s.prot with
        pendingSet := s.prot.pendingSet.filter (fun c => !decide (c.level < s.prot.topLevel))
        deferredSet := (s.prot.pendingSet.filter (fun c => decide (c.level < s.prot.topLevel))).foldl
          (fun d c => insertClass c d) s.prot.deferredSet } }
  else match lowestBelow s.prot.topLevel s.prot.pendingSet with
    | some c => s.take c
    | none => s

/-- The pop of R165: every clear-ready context at the top, then the pending set. -/
def State.pop (s : State) : State :=
  let popped := s.prot.stack.takeWhile Context.clearReady
  let s1 : State := { s with prot := { s.prot with
    stack := s.prot.stack.dropWhile Context.clearReady } }
  (popped.foldl State.afterPop s1).promotePending

/-- The judgement of the deferred set at an update's completion (R161): one class after the other, lowest
level first, each afresh under R160 with no update in flight. -/
def State.judgeDeferred (s : State) : State :=
  let s1 : State := { s with prot := { s.prot with deferredSet := [] } }
  s.prot.deferredSet.foldl (fun t c => t.raiseWith false c none) s1

/-- The step 1 and 2 of R163 on a context: its hold counts down, and for the classes judged at expiries the
clear-ready follows the hold and the clear condition. -/
def State.tickContext (s : State) (x : Context) : Context :=
  let hold := x.hold - 1
  { x with
    hold := hold
    clearReady := if x.cls.judged then decide (hold = 0) && s.clearCondition x.cls else x.clearReady }

/-- The protection unit's work at a control-period expiry (R163). -/
def State.protectionExpiry (s : State) : State :=
  let s1 : State := { s with prot := { s.prot with stack := s.prot.stack.map s.tickContext } }
  s1.pop

/-! ### Changes of station state (R50, R84, R85, R171 to R176) -/

/-- The governor's part of a departure from RUN (R85): output and request 0, the shortfall counter 0 and
SHORTFALL withdrawn, a faulted TORQUE_FB following the output (R61). -/
def State.departRun (s : State) (mode : Mode) : State :=
  let s1 : State := { s with
    gov := { s.gov with output := 0, request := 0, shortfall := 0, mode := mode }
    prot := { s.prot with shortfallReason := false } }
  s1.followTorque

/-- Entry to RUN (R49, R50, R84): the opening marker is set. The capacity offer stays as it is until the next
superframe completion, also where RUN was left and no completion has followed (R132, log 32). -/
def State.enterRun (s : State) : State :=
  { s with
    station := { s.station with state := .run }
    gov := { s.gov with opening := true } }

/-- A trip (R174): latch, cause set, TRIPPED, the departure from RUN, brake reason HELD cleared and one
ALERT. An update in flight will be discarded (R85). -/
def State.trip (s : State) (cause : TripCause) : State :=
  let s1 := if s.station.state = .run then s.departRun .coast else s
  let s2 : State := { s1 with
    station := { s1.station with state := .tripped }
    gov := { s1.gov with
      mode := .coast
      update := s1.gov.update.map (fun u => { u with discarded := true }) }
    prot := { s1.prot with firstCause := some cause, causes := [cause], heldReason := false } }
  s2.alert .trip [cause.code]

/-- The counter of a trip cause (R173, R182). -/
def TripCause.counter : TripCause → CounterId
  | .overcurrent => .overcurrentTrips
  | .linkHard => .linkHardTrips
  | .gridOpen => .gridOpenTrips

/-- A trip cause is received (R173 to R175). -/
def State.receiveCause (s : State) (cause : TripCause) : State :=
  match s.station.state with
  | .ready | .run | .held => (s.bump cause.counter).trip cause
  | .tripped =>
    let s1 := s.bump cause.counter
    if s1.prot.causes.contains cause then s1
    else { s1 with prot := { s1.prot with causes := s1.prot.causes ++ [cause] } }
  | _ => s

/-- The condition of a trip cause is gone (R173). -/
def State.causeGone (s : State) (cause : TripCause) : Bool :=
  match cause with
  | .overcurrent => !s.pins.faultLine
  | .linkHard => decide (s.meas.channels.linkVoltage.value < 2000)
  | .gridOpen => true

/-- The power-stage fault line as a step reads it. -/
def State.showFaultLine (s : State) (level : Bool) : State :=
  { s with pins := { s.pins with faultLine := level } }

/-- Entry to READY, with the check of R173: OVERCURRENT while the fault line is asserted. -/
def State.enterReady (s : State) : State :=
  let s1 : State := { s with station := { s.station with state := .ready } }
  if s1.pins.faultLine then s1.receiveCause .overcurrent else s1

/-- The station leaves LISTEN once the listen interval is over and the self-check has passed (R43). -/
def State.leaveListen (s : State) : State :=
  if s.station.listenCounter = 16 && s.station.selfCheckPassed then
    if s.station.locked then s.enterReady
    else { s with station := { s.station with state := .commission } }
  else s

/-- Entry to ISOLATED (R15, R16, R36, R38, R44, R54, R80). -/
def State.isolate (s : State) (reason : IsolationReason) : State :=
  { s with
    station := { s.station with state := .isolated, isolation := some reason }
    bus := { s.bus with
      tx := none
      urgent := []
      stateSlot := none
      reportSlot := none
      consecutive := 0
      rx := []
      receiving := false
      loopback := none }
    peers := { s.peers with absorber := none, ownHeard := false }
    meas := { s.meas with converting := none }
    gov := { s.gov with output := 0, request := 0, update := none } }

/-- The loopback self-check begins (R20, R42): both test posts are built and A is the first to be looped; looping
waits while a line reception is in progress. -/
def State.startSelfCheck (s : State) : State :=
  { s with bus := { s.bus with
      loopback := some ⟨testPostA s.station.number, testPostB s.station.number, none, 0, !s.bus.receiving⟩ } }

/-- One bit-time of looping (R20): when the last bit of A has been looped its tag is handed over and B begins from
its start. The end of B is SELF_CHECK_COMPLETION (R42), for which B's last bit waits (log 24). -/
def Loopback.tick (l : Loopback) : Loopback :=
  match l.tagA with
  | none =>
    if l.sent + 1 < (postLevels l.postA).length then { l with sent := l.sent + 1 }
    else { l with tagA := some (loopedTag l.postA []), sent := 0 }
  | some _ => { l with sent := min (postLevels l.postB).length (l.sent + 1) }

/-! ### The report of R31 -/

/-- The classification of the payload and the standing handed over with a report (R150, R151). -/
def State.classifyPayload (s : State) : State :=
  let d := s.demand
  let pc := classify d.demand.payload s.station.record.ratedPayload
  { s with load := { s.load with percentage := pc.1, payloadClass := pc.2, standing := d.standing } }

/-- The report of R31: load accounting classifies the payload (R151), and PAYLOAD_OVER and PEER_LOSS are
raised or withdrawn (R159, R162). When both are raised, no rule says which is first: a free value
decides (log 9). -/
def State.report31 (s : State) : State :=
  if !s.station.state.live then s
  else
    let s1 : State := { s.classifyPayload with reports := s.reports + 1 }
    let isOver := s1.load.payloadClass == .over
    let loss := s1.peerLoss
    if isOver && loss && !Config.payloadFirst s.reports then
      (s1.judge .peerLoss loss).judge .payloadOver isOver
    else (s1.judge .payloadOver isOver).judge .peerLoss loss

end Sys2Proof.Machine
end

