-- ==== Sys2Proof/Machine/Records.lean ====
section
/-! DEFINITION. The posts the part builds from its live state: the STATE post (R4), the ORDER STOP of the stop
line (R7), and the records of the six report pages (chapter Reports and Counters). -/

namespace Sys2Proof.Machine

/-! ### The STATE post (R4) -/

/-- The wheel speed of a STATE post: absent while WHEEL_SPEED is faulted (R4). -/
def State.postedWheel (s : State) : Option Int :=
  let r := s.meas.channels.wheelSpeed
  if r.faulted then none else some r.value

/-- The fields of a STATE post, from live state (R4). -/
def State.stateRecord (s : State) : StateRecord where
  stationState := s.station.state
  mode := s.gov.mode
  topLevel := s.prot.topLevel
  slip := if s.meas.channels.wheelSpeed.faulted then .grip else s.gov.slip
  wheelSpeed := s.postedWheel
  centreSpeed := s.postedWheel.map (fun w => centreSpeed w s.geo.turnFactor)
  torque := s.gov.output
  offer := s.grid.offer
  gridTemp := match s.grid.modelTemp with
    | some t => t.tdiv 10
    | none => 0
  brake := s.brakeRequest
  tripCause := if s.station.state = .tripped then s.prot.firstCause else none

/-- The STATE post of a post-period expiry (R4, R14, R39). -/
def State.buildStatePost (s : State) : State :=
  if s.station.state.posts then s.offerState (.state s.stateRecord) else s

/-- The ORDER STOP to ALL that the stop line's assertion queues (R7, R168). -/
def orderStopAll : Body := .order .stop targetAll 0

/-! ### Record fields (R8, R180) -/

/-- An optional one-byte field behind its presence byte. -/
def optByte : Option Nat → List Byte
  | none => [0, 0]
  | some v => [1, byte v]

/-- An optional two-byte field behind its presence byte. -/
def optSigned : Option Int → List Byte
  | none => [0, 0, 0]
  | some v => 1 :: signed16 v

/-- A list behind its member count. -/
def listBytes (l : List Nat) : List Byte := byte l.length :: l.map byte

/-- A stored DEMAND record, its fields in the order of R23. -/
def DemandRecord.report (r : DemandRecord) : List Byte :=
  [byte r.direction.code, byte (yesNo r.hold)] ++ bytes16 r.propel ++ bytes16 r.retard
    ++ signed16 r.steer ++ bytes16 r.ceiling
    ++ optSigned (r.payload.map Int.ofNat) ++ optSigned r.frontRef

/-- A stored STATE record, its fields in the order of R23. -/
def StateRecord.report (r : StateRecord) : List Byte :=
  [byte r.stationState.code, byte r.mode.code, byte r.topLevel, byte r.slip.code]
    ++ optSigned r.wheelSpeed ++ optSigned r.centreSpeed ++ signed16 r.torque ++ bytes16 r.offer
    ++ signed16 r.gridTemp ++ [byte (yesNo r.brake)] ++ optByte (r.tripCause.map TripCause.code)

/-! ### The pages (R181 to R187); the empty record is the marker EMPTY -/

/-- The identity record (R181, index 0). -/
def State.identityRecord (s : State) : List Byte :=
  [byte 23] ++ bytes16 420 ++ [byte 2, byte s.station.number, byte s.side.code,
    byte s.station.state.code, byte (yesNo s.station.locked), byte (yesNo s.station.selfCheckPassed),
    byte (yesNo s.queuedError), byte (yesNo s.bus.lineHeld)]

/-- The IDENTITY page (R181). -/
def State.identityPage (s : State) (index : Nat) : List Byte :=
  if index = 0 then s.identityRecord
  else match s.station.record.item index with
    | some v => byte index :: bytes16 v
    | none => []

/-- The COUNTERS page (R182). -/
def State.countersPage (s : State) (index : Nat) : List Byte :=
  match CounterId.ofIndex index with
  | some c => bytes16 (s.counters.get c)
  | none => []

/-- A context's record (R184). -/
def Context.report (x : Context) : List Byte :=
  [byte x.cls.level, byte x.cls.level, byte x.entrySeq] ++ signed16 x.entrySpeed
    ++ signed16 x.entryTorque ++ bytes16 x.hold ++ [byte (yesNo x.clearReady)]
    ++ listBytes (x.channels.map Channel.code)

/-- The waiting record (R184). -/
def Protection.waitingRecord (p : Protection) : List Byte :=
  listBytes (p.pendingSet.map ProtClass.level) ++ listBytes (p.deferredSet.map ProtClass.level)
    ++ optByte (p.firstCause.map TripCause.code) ++ listBytes (p.causes.map TripCause.code)
    ++ [byte (yesNo p.stopLine)]

/-- The STACK page (R184): the contexts from the top down, then the waiting record. -/
def State.stackPage (s : State) (index : Nat) : List Byte :=
  match s.prot.stack[index]? with
  | some x => x.report
  | none => if index = s.prot.stack.length then s.prot.waitingRecord else []

/-- A peer entry's record (R180, R185). -/
def PeerEntry.report (e : PeerEntry) (number : Nat) : List Byte :=
  [byte number, byte e.presence.code, byte e.age] ++ optByte (e.lastKind.map PostKind.code)
    ++ optByte e.lastSeq ++ bytes16 e.missed ++ optByte (e.lastAlert.map AlertKind.code)
    ++ (match e.contents with
      | .none => [0]
      | .demand r => 1 :: r.report
      | .state r => 1 :: r.report)

/-- The station numbers of the peer entries: all but the own (R22, R185). -/
def State.peerNumbers (s : State) : List StationId :=
  [StationId.s0, .s1, .s2, .s3, .s4].filter (fun i => i.num != s.station.number)

/-- The PEERS page (R185). -/
def State.peersPage (s : State) (index : Nat) : List Byte :=
  match s.peerNumbers[index]? with
  | some i => (s.peers.entries.get i).report i.num
  | none => []

/-- The place of a channel on the fault-order list, 0 when it is not on it (R186). -/
def faultPlace (c : Channel) (order : List Channel) : Nat :=
  if order.contains c then order.idxOf c + 1 else 0

/-- The channel an index of the CHANNELS page names (R186). -/
def Channel.ofIndex : Nat → Option Channel
  | 0 => some .wheelSpeed | 1 => some .torqueFb | 2 => some .linkVoltage | 3 => some .windingTemp
  | 4 => some .gridElementTemp | 5 => some .gridAirTemp | 6 => some .gridCurrent | _ => none

/-- The CHANNELS page (R186). -/
def State.channelsPage (s : State) (index : Nat) : List Byte :=
  match Channel.ofIndex index with
  | some c =>
    let r := s.meas.channels.get c
    [byte c.code] ++ signed16 r.value ++ optSigned r.lastGood
      ++ [byte (statusCode r.status), byte r.badRun, byte r.goodRun, byte (yesNo r.faulted),
          byte (faultPlace c s.meas.faultOrder)]
  | none => []

/-- The GRID page (R187). -/
def State.gridPage (s : State) (index : Nat) : List Byte :=
  if index = 0 then
    optSigned s.grid.modelTemp ++ optSigned s.grid.gridTemp
      ++ signed16 s.meas.channels.gridElementTemp.value ++ bytes16 s.grid.offer
      ++ [byte s.grid.established, byte s.grid.target, byte (s.grid.spinUp.getD 0),
          byte (yesNo s.grid.blowerFault)]
      ++ bytes16 s.grid.duty ++ bytes16 s.grid.latchedVoltage
      ++ [byte s.grid.frame, byte s.grid.count, byte s.grid.openCounter]
  else []

/-- The record a page and index name (R178). -/
def State.pageRecord (s : State) (page : Page) (index : Nat) : List Byte :=
  match page with
  | .identity => s.identityPage index
  | .counters => s.countersPage index
  | .stack => s.stackPage index
  | .peers => s.peersPage index
  | .channels => s.channelsPage index
  | .grid => s.gridPage index

/-- The answer to a QUERY (R178, R179): one REPORT built from live state, offered to the REPORT slot. -/
def State.answerQuery (s : State) (page : Page) (index : Nat) : State :=
  s.offerReport (.report page index (s.pageRecord page index))

end Sys2Proof.Machine
end

