-- ==== Sys2Proof/Machine/Resets.lean ====
section
/-! DEFINITION. The meanings of COLD_RESET, RESET_RELEASE and SELF_CHECK_COMPLETION, and the warm restart. -/

namespace Sys2Proof.Machine

open Host (Outcome)

/-! ### COLD_RESET (R40) -/

/-- Every operation in flight is abandoned and no completion of it takes place (R40): an attempt, a
reception, a looped test post, an absorption, a conversion, an update, a superframe (its timer held at
frame 1, count 1, R122) and a spin-up (R136). -/
def State.abandonOperations (s : State) : State :=
  { s with
    bus := { s.bus with
      tx := s.bus.tx.map (fun t => { t with attempt := none }), receiving := false, loopback := none }
    peers := { s.peers with absorber := none }
    meas := { s.meas with converting := none }
    gov := { s.gov with update := none }
    grid := { s.grid with elapsed := 0, spinUp := none } }

/-- COLD_RESET (R40, R50, R85, R122, R136): RESET is entered from any state. A departure from RUN drops the
torque output at that moment; every other value of cold reset is given for the release (log 26). -/
def execColdReset (s : State) : Outcome State Fault Refusal :=
  let s1 := if s.station.state = .run then s.departRun .coast else s
  let s2 := s1.abandonOperations
  .next { s2 with
    pins := { s2.pins with resetLine := true }
    station := { s2.station with state := .reset } }

/-! ### RESET_RELEASE (R40, R41) -/

/-- The stop line becomes asserted: one ORDER STOP to ALL is offered, and a STOP reaches the protection
unit (R168, R169). -/
def State.stopLineAsserted (s : State) : State := (s.offerUrgent orderStopAll).receiveStop

/-- The values at release of the reset line (R40, with each block's own chapter): every block at its value of
cold reset, LISTEN, the straps as read, the first conversion begun (R54), the stop-line state as read from
the line (R177). Only the levels of the local lines and the model's own fields are kept. -/
def State.released (s : State) (straps : Fin 8) : State where
  pins := { s.pins with resetLine := false, straps := straps }
  station := ⟨.listen, straps.val, none, .default, false, 0, false⟩
  bus := .cold
  counters := .zero
  peers := .cold
  meas := { Measurement.cold with converting := some .wheelSpeed }
  geo := .cold
  gov := .cold
  grid := .cold
  load := .cold
  prot := { Protection.cold with stopLine := s.pins.stopLine }
  reports := s.reports
  pending := s.pending

/-- RESET_RELEASE (R40, R41, R42, R169): LISTEN with the values of cold reset. Straps that are no station
number isolate the station at once; else the self-check starts, and a stop line asserted at the release
counts as becoming asserted. Without a reset line asserted there is nothing to release (log 1). -/
def execResetRelease (straps : Fin 8) (s : State) : Outcome State Fault Refusal :=
  if s.station.state = .reset then
    let s1 := s.released straps
    if legalNumber straps.val then
      let s2 := s1.startSelfCheck
      .next (if s2.prot.stopLine then s2.stopLineAsserted else s2)
    else .next (s1.isolate .strap)
  else .next s

/-! ### SELF_CHECK_COMPLETION (R42, R43) -/

/-- The two tags of a self-check (R20): A's as handed over, or given now if A has not yet been looped to its end,
and B's, each from the receiver's examination of the post looped. -/
def Loopback.tags (l : Loopback) (flipsA flipsB : List Nat) : Tag × Tag :=
  (l.tagA.getD (loopedTag l.postA flipsA), loopedTag l.postB flipsB)

/-- SELF_CHECK_COMPLETION (R20, R42, R43): the tag of B is handed over. A tagged CHECK and B untagged pass,
and the station leaves LISTEN if the listen interval is over; any other pair isolates the station. It takes
place only while a test post is being looped (R20, log 1). -/
def execSelfCheckCompletion (flipsA flipsB : List Nat) (faultLine : Bool) (s : State) :
    Outcome State Fault Refusal :=
  match s.bus.loopback with
  | some l =>
    if s.station.state = .listen ∧ l.looping then
      if l.tags flipsA flipsB = (.check, .untagged) then
        let s1 : State := { s with
          bus := { s.bus with loopback := none }
          station := { s.station with selfCheckPassed := true } }
        .next (s1.showFaultLine faultLine).leaveListen
      else .next (s.isolate .selfCheck)
    else .next s
  | none => .next s

/-! ### Warm restart (R15, R38, R41, R52, R64, R66, R80, R121, R141, R169, R177) -/

/-- The transmit register at a warm restart (R15): an attempt in progress runs to its end as the last, a
post waiting for a retry is discarded at once. -/
def TxRegister.warm (t : TxRegister) : Option TxRegister :=
  if t.attempt.isSome then some { t with last := true } else none

/-- The warm-restart value of every block (R52). -/
def State.warmValues (s : State) : State :=
  { s with
    station := { s.station with state := .listen, listenCounter := 0, selfCheckPassed := false }
    bus := { s.bus with
      tx := s.bus.tx.bind TxRegister.warm
      urgent := []
      stateSlot := none
      reportSlot := none
      consecutive := 0
      rx := []
      loopback := none }
    peers := ⟨.absent, none, false, s.station.record.postPeriod⟩
    gov := { Governor.cold with period := s.gov.period, update := s.gov.update }
    grid := { s.grid with offer := 0, openCounter := 0, counted := false }
    load := { s.load with percentage := none, payloadClass := .unknown, standing := .fallback }
    prot := { Protection.cold with stopLine := s.prot.stopLine } }

/-- The raises of R64 and the STOP of R169 at a warm restart. They are taken at once: the first raise finds
BASE on top and is taken, the later ones refresh it (log 21). -/
def State.restartRaises (s : State) : State :=
  let s1 := s.meas.faultOrder.foldl (fun t c => t.raiseWith false .sensorFault (some c)) s
  if s1.prot.stopLine then s1.take .stop else s1

/-- A warm restart (R52): the blocks take their warm-restart values, the straps are read again and compared
with the number held (R41), the self-check starts, and the raises follow. -/
def State.warmRestart (s : State) (straps : Fin 8) : State :=
  let s1 := s.warmValues.recomputeGeometry
  let s2 : State := { s1 with pins := { s1.pins with straps := straps } }
  if straps.val = s2.station.number then s2.startSelfCheck.restartRaises
  else s2.isolate .strap

end Sys2Proof.Machine
end

