-- ==== Sys2Proof/Machine/Absorption.lean ====
section
/-! DEFINITION. The completions of an absorption (chapter The Peer View and the owners' chapters): LINE_HELD_ENTRY
and TAGGED_POST, and one command for each kind of post and order. Every effect of an absorption takes place at
its completion, in the order of R25 to R29 and R31. -/

namespace Sys2Proof.Machine

open Host (Outcome)

/-! ### The steps of R25 to R27 -/

/-- The absorber is idle again (R24). -/
def State.freeAbsorber (s : State) : State := { s with peers := { s.peers with absorber := none } }

/-- An untagged post under the own number (R35 to R37): counted in every state; in LISTEN it isolates the
station, later it sets the own-number-heard marker. -/
def State.hearOwnNumber (s : State) : State :=
  let s1 := s.bump .duplicateOwnNumber
  if s.station.state = .listen then s1.isolate .duplicate
  else { s1 with peers := { s1.peers with ownHeard := true } }

/-- A duplicate (R26): the entry has a last sequence, and kind and sequence number are its last ones. -/
def PeerEntry.isDuplicate (e : PeerEntry) (kind : PostKind) (seq : Nat) : Bool :=
  e.presence != .absent && e.lastSeq == some seq && e.lastKind == some kind

/-- The sequence gap added at an acceptance (R26). -/
def sequenceGap (last : Option Nat) (seq : Nat) : Nat :=
  match last with
  | some l => (seq + 31 - l) % 16
  | none => 0

/-- A DEMAND record with every numeric field within its range (R23). -/
def DemandRecord.clamped (r : DemandRecord) : DemandRecord :=
  { r with
    propel := min 1000 r.propel
    retard := min 1000 r.retard
    steer := clampInt (-450) 450 r.steer
    ceiling := min 3000 r.ceiling
    payload := r.payload.map (fun p => min 600 p)
    frontRef := r.frontRef.map (clampInt (-3000) 3000) }

/-- A STATE record with every numeric field within its range (R23). -/
def StateRecord.clamped (r : StateRecord) : StateRecord :=
  { r with
    topLevel := min 7 r.topLevel
    wheelSpeed := r.wheelSpeed.map (clampInt (-3000) 3000)
    centreSpeed := r.centreSpeed.map (clampInt (-3000) 3000)
    torque := clampInt (-4000) 4000 r.torque
    offer := min 4000 r.offer
    gridTemp := clampInt (-50) 1200 r.gridTemp }

/-- The contents an accepted post leaves in its sender's entry (R27). -/
def nextContents (source : StationId) (body : Body) (old : Contents) : Contents :=
  match body with
  | .demand r => if source = .s0 then .demand r.clamped else old
  | .state r => if source = .s0 then old else .state r.clamped
  | _ => old

/-- The last alert after an accepted post (R27). -/
def nextAlert (body : Body) (old : Option AlertKind) : Option AlertKind :=
  match body with
  | .alert k _ => some k
  | _ => old

/-- An entry after the acceptance of a post from its station (R26, R27). -/
def PeerEntry.accept (e : PeerEntry) (p : Post) : PeerEntry where
  presence := .fresh
  age := 0
  lastKind := some p.body.kind
  lastSeq := some p.seq
  missed := min 65535 (e.missed + sequenceGap e.lastSeq p.seq)
  contents := nextContents p.source p.body e.contents
  lastAlert := nextAlert p.body e.lastAlert

/-- The acceptance of a post in its sender's entry (R26, R27). -/
def State.acceptPost (s : State) (p : Post) : State :=
  { s with peers := { s.peers with
      entries := s.peers.entries.set ((s.peers.entries.get p.source).accept p) p.source } }

/-- What every accepted post is followed by: the geometry record follows a post from the host (R67), and the
report of R31 is made. -/
def State.afterAcceptance (s : State) (source : StationId) : State :=
  let s1 := if source = .s0 ∧ s.station.state.live then s.recomputeGeometry else s
  s1.report31

/-- The completion of the absorption of an untagged post (R25, steps 3 to 5), with what its kind routes (R28,
R29). -/
def State.absorb (s : State) (p : Post) (route : Post → State → State) : State :=
  let s1 := s.freeAbsorber
  if p.source.num = s.station.number then s1.hearOwnNumber
  else if (s.peers.entries.get p.source).isDuplicate p.body.kind p.seq then s1.bump .duplicates
  else (route p (s1.acceptPost p)).afterAcceptance p.source

/-- The completion of the absorption of an untagged post whose body a command is about. Another entry in the
absorber, or none, is not that command's event (log 23), and no absorption is in flight in RESET or ISOLATED
(R24). -/
def State.completeAbsorption (s : State) (about : Body → Bool) (route : Post → State → State) :
    State :=
  match s.peers.absorber with
  | some (.good p) => if s.station.state.live ∧ about p.body then s.absorb p route else s
  | _ => s

/-- Posts that go no further than the entry (R29). -/
def routeNone (_ : Post) (s : State) : State := s

/-! ### LINE_HELD_ENTRY and TAGGED_POST (R25) -/

/-- LINE_HELD_ENTRY (R25, step 1): the marker is discarded. -/
def execLineHeldEntry (s : State) : Outcome State Fault Refusal :=
  match s.peers.absorber with
  | some .lineHeld => if s.station.state.live then .next s.freeAbsorber else .next s
  | _ => .next s

/-- TAGGED_POST (R25, step 2): the post is discarded and counted on its tag's counter. -/
def execTaggedPost (s : State) : Outcome State Fault Refusal :=
  match s.peers.absorber with
  | some (.check _) =>
    if s.station.state.live then .next (s.freeAbsorber.bump .checkTags) else .next s
  | some (.form _) =>
    if s.station.state.live then .next (s.freeAbsorber.bump .formTags) else .next s
  | _ => .next s

/-! ### STATE, ALERT, REPORT (R27, R29) -/

/-- STATE (R25 to R29, R31). -/
def execState (s : State) : Outcome State Fault Refusal :=
  .next (s.completeAbsorption (fun b => b.kind == .state) routeNone)

/-- ALERT (R25 to R29, R31). -/
def execAlert (s : State) : Outcome State Fault Refusal :=
  .next (s.completeAbsorption (fun b => b.kind == .alert) routeNone)

/-- REPORT (R25 to R29, R31). -/
def execReport (s : State) : Outcome State Fault Refusal :=
  .next (s.completeAbsorption (fun b => b.kind == .report) routeNone)

/-! ### DEMAND (R29, R49, R105, R172) -/

/-- The hold request handed to the governor (R29, R105). -/
def State.handHold (s : State) (hold : Bool) : State := { s with gov := { s.gov with holdMarker := hold } }

/-- Station control's use of the notice (R49, R50, R84, R159): in READY, a direction FORWARD or REVERSE enters
RUN, and the peer grace count is set to 3. -/
def State.demandNoticeStation (s : State) (d : Direction) : State :=
  if s.station.state = .ready ∧ d ≠ .neutral then
    let s1 := s.enterRun
    { s1 with prot := { s1.prot with grace := 3 } }
  else s

/-- The protection unit's use of the notice (R172): in HELD with the marker clear, the station returns to RUN
with ALERT HOLD_LEFT. -/
def State.demandNoticeProtection (s : State) : State :=
  if s.station.state = .held ∧ s.gov.holdMarker = false then s.enterRun.alert .holdLeft []
  else s

/-- The routing of a DEMAND (R29): only one from the host hands anything on. -/
def routeDemand (p : Post) (s : State) : State :=
  match p.body with
  | .demand r =>
    if p.source = .s0 then
      ((s.handHold r.hold).demandNoticeStation r.direction).demandNoticeProtection
    else s
  | _ => s

/-- DEMAND (R25 to R29, R31, R49, R172). -/
def execDemand (s : State) : Outcome State Fault Refusal :=
  .next (s.completeAbsorption (fun b => b.kind == .demand) routeDemand)

/-! ### CONFIG (R29, R46) -/

/-- Station control's handling of an item (R46). -/
def State.configItem (s : State) (item value : Nat) : State :=
  if s.station.locked then s.bump .configAfterLock
  else match itemRange item with
    | none => s.bump .configClamps
    | some (lo, hi) =>
      let v := clampNat lo hi value
      let s1 : State := { s with station := { s.station with
        record := s.station.record.setItem v item } }
      if v = value then s1 else s1.bump .configClamps

/-- The routing of a CONFIG (R29): from the host, for this station. -/
def routeConfig (p : Post) (s : State) : State :=
  match p.body with
  | .config target item value =>
    if p.source = .s0 ∧ target = s.station.number then s.configItem item value else s
  | _ => s

/-- CONFIG (R25 to R29, R31, R46). -/
def execConfig (s : State) : Outcome State Fault Refusal :=
  .next (s.completeAbsorption (fun b => b.kind == .config) routeConfig)

/-! ### QUERY (R29, R178) -/

/-- The routing of a QUERY (R29): from the host, for this station. -/
def routeQuery (p : Post) (s : State) : State :=
  match p.body with
  | .query target page index =>
    if p.source = .s0 ∧ target = s.station.number then s.answerQuery page index else s
  | _ => s

/-- QUERY (R25 to R29, R31, R178). -/
def execQuery (s : State) : Outcome State Fault Refusal :=
  .next (s.completeAbsorption (fun b => b.kind == .query) routeQuery)

/-! ### Orders (R28) -/

/-- Whether a body is an order of a kind. -/
def Body.isOrder (b : Body) (k : OrderKind) : Bool :=
  match b with
  | .order k' _ _ => k' == k
  | _ => false

/-- The routing of an order (R28): first the target, the own number or ALL; then the source, any for STOP and
the host for every other, refused and counted otherwise. The owner gets the argument. -/
def routeOrder (owner : Nat → State → State) (p : Post) (s : State) : State :=
  match p.body with
  | .order kind target argument =>
    if target = s.station.number ∨ target = targetAll then
      if kind = .stop ∨ p.source = .s0 then owner argument s else s.refuseOrder
    else s
  | _ => s

/-- STOP (R28, R168). -/
def execStop (s : State) : Outcome State Fault Refusal :=
  .next (s.completeAbsorption (fun b => b.isOrder .stop) (routeOrder (fun _ t => t.receiveStop)))

/-- The STOP context made clear-ready and popped (R165, R170), or SENSOR_FAULT (R164). -/
def State.readyAndPop (s : State) (c : ProtClass) : State :=
  State.pop { s with prot := { s.prot with
    stack := s.prot.stack.map (fun x => if x.cls = c then { x with clearReady := true } else x) } }

/-- The protection unit's judgement of a RELEASE (R170). -/
def State.judgeRelease (s : State) : State :=
  if s.prot.onStack .stop && s.standing && !s.prot.stopLine then s.readyAndPop .stop
  else s.refuseOrder

/-- RELEASE (R28, R170). -/
def execRelease (s : State) : Outcome State Fault Refusal :=
  .next (s.completeAbsorption (fun b => b.isOrder .release) (routeOrder (fun _ t => t.judgeRelease)))

/-- The protection unit's judgement of a CLEAR_TRIP (R173, R176). -/
def State.judgeClearTrip (s : State) : State :=
  if s.station.state = .tripped ∧ s.standing ∧ s.prot.causes.all s.causeGone then
    State.enterReady { s with prot := { s.prot with firstCause := none, causes := [] } }
  else s.refuseOrder

/-- CLEAR_TRIP (R28, R176), with the level of the power-stage fault line. -/
def execClearTrip (faultLine : Bool) (s : State) : Outcome State Fault Refusal :=
  .next (s.completeAbsorption (fun b => b.isOrder .clearTrip)
    (routeOrder (fun _ t => (t.showFaultLine faultLine).judgeClearTrip)))

/-- The conditions of an ACKNOWLEDGE (R164): argument 6, SENSOR_FAULT on the stack with its hold run out, and
every channel on its list with a good-run of at least 32. -/
def State.acknowledgeTaken (s : State) (argument : Nat) : Bool :=
  match s.prot.stack.find? (fun x => x.cls == .sensorFault) with
  | some x => argument == 6 && x.hold == 0
      && x.channels.all (fun c => decide (32 ≤ (s.meas.channels.get c).goodRun))
  | none => false

/-- The protection unit's judgement of an ACKNOWLEDGE (R164). -/
def State.judgeAcknowledge (s : State) (argument : Nat) : State :=
  if s.acknowledgeTaken argument then s.readyAndPop .sensorFault else s.refuseOrder

/-- ACKNOWLEDGE (R28, R164). -/
def execAcknowledge (s : State) : Outcome State Fault Refusal :=
  .next (s.completeAbsorption (fun b => b.isOrder .acknowledge)
    (routeOrder (fun a t => t.judgeAcknowledge a)))

/-- Whether station control takes a RESTART (R51). -/
def State.restartTaken (s : State) : Bool :=
  match s.station.state with
  | .ready | .held | .tripped => s.standing
  | _ => false

/-- Station control's judgement of a RESTART (R51, R52). -/
def State.judgeRestart (s : State) (straps : Fin 8) : State :=
  if s.restartTaken then s.warmRestart straps else s.refuseOrder

/-- RESTART (R28, R51, R52), with the strap pins as they read. -/
def execRestart (straps : Fin 8) (s : State) : Outcome State Fault Refusal :=
  .next (s.completeAbsorption (fun b => b.isOrder .restart)
    (routeOrder (fun _ t => t.judgeRestart straps)))

/-- The first cross rule that fails (R48): post_period ≥ control_period, then ramp_down ≥ ramp_up. -/
def CommRecord.failedRule (r : CommRecord) : Option Nat :=
  if r.postPeriod < r.controlPeriod then some 1
  else if r.rampDown < r.rampUp then some 2
  else none

/-- Station control's judgement of a LOCK (R48). -/
def State.judgeLock (s : State) : State :=
  if s.station.state = .commission then
    match s.station.record.failedRule with
    | some n => s.alert .configRefused [n]
    | none => State.enterReady { s with station := { s.station with locked := true } }
  else s.refuseOrder

/-- LOCK (R28, R48, R173), with the level of the power-stage fault line. -/
def execLock (faultLine : Bool) (s : State) : Outcome State Fault Refusal :=
  .next (s.completeAbsorption (fun b => b.isOrder .lock)
    (routeOrder (fun _ t => (t.showFaultLine faultLine).judgeLock)))

end Sys2Proof.Machine
end

