-- ==== Sys2Proof/Machine/BusSteps.lean ====
section
/-! DEFINITION. The meanings of the bus port's commands: arrivals, line-held episodes, the transmitter, the start
symbol (chapter The Group Bus), and ABSORPTION (R24). -/

namespace Sys2Proof.Machine

open Host (Outcome)

/-- A line reception ends: a test post that was abandoned is looped again from its start (R20). -/
def State.endReception (s : State) : State :=
  { s with bus := { s.bus with
      receiving := false
      loopback := s.bus.loopback.map (fun l => { l with looping := true }) } }

/-- The line after a post: its idle time is that of the levels that carried the post (R1, log 34), and the
receiver looks for the next start symbol at once, or, after a reception that ended early, once the line has been
idle for 2 bit-times (R16, log 33). -/
def State.afterPost (s : State) (levels : List Bool) (whole : Bool) : State :=
  { s with bus := { s.bus with
      idleTime := idleTail levels
      looking := whole || decide (2 ≤ idleTail levels) } }

/-- POST_ARRIVAL (R16 to R18, R20): the levels since the start symbol are a reception up to its end, and its post is
examined and joins the receive queue. The receiver is stopped in RESET and ISOLATED, and a post this station is
driving itself does not arrive (R16, log 22); nor does one without a start symbol before it (log 1). -/
def execPostArrival (levels : List Bool) (s : State) : Outcome State Fault Refusal :=
  if s.station.state.live ∧ s.driving = none ∧ s.bus.receiving then
    match receiveLevels levels with
    | some (r, []) => .next ((s.endReception.joinRx (examine r)).afterPost levels r.isWhole)
    | _ => .next s
  else .next s

/-- LINE_HELD_EPISODE (R19): the marker is set, the episode counted, and one LINE_HELD entry arrives. While the
marker is set no further one does. -/
def execLineHeldEpisode (s : State) : Outcome State Fault Refusal :=
  if s.station.state.live ∧ s.bus.lineHeld = false then
    let s1 : State := { s with bus := { s.bus with lineHeld := true, idleTime := 0 } }
    .next ((s1.bump .lineHeldEpisodes).joinRx .lineHeld)
  else .next s

/-- LINE_HELD_END (R19): the marker is cleared and the idle time starts again from 0. -/
def execLineHeldEnd (s : State) : Outcome State Fault Refusal :=
  if s.station.state.live ∧ s.bus.lineHeld then
    .next { s with bus := { s.bus with lineHeld := false, idleTime := 0 } }
  else .next s

/-- The containers after the candidate has left its own (R12 to R14). -/
def BusPort.takeCandidate (b : BusPort) : BusPort :=
  match b.urgent with
  | _ :: rest => { b with urgent := rest }
  | [] => match b.stateSlot with
    | some _ => { b with stateSlot := none }
    | none => { b with reportSlot := none }

/-- An attempt begins with a post in the transmit register: its bytes, with the check code computed now, are
driven onto the line (R3, R11), so the line is active (R1). -/
def State.beginAttempt (s : State) (body : Body) (seq : Nat) : State :=
  { s with bus := { s.bus with
      tx := some ⟨body, seq, some (wire s.station.number seq body), false⟩
      idleTime := 0 } }

/-- POST_TRANSMISSION (R10 to R12, R15): the line has been idle for `waited` further bit-times. If the transmit
register holds a post that waits for a retry, or is empty and the arbiter has a candidate, and the idle time has
reached that post's gap, an attempt begins; the candidate then takes the sequence number (R9). The line is not
idle while it is held (R19) and while a post is being received. -/
def execPostTransmission (waited : Nat) (s : State) : Outcome State Fault Refusal :=
  if s.station.state.posts ∧ s.bus.lineHeld = false ∧ s.bus.receiving = false ∧ s.driving = none then
    let s1 := s.idleFor waited
    match s.bus.tx with
    | some t =>
      if gap t.body.kind s.station.number ≤ s1.bus.idleTime then .next (s1.beginAttempt t.body t.seq)
      else .next s1
    | none => match s.bus.candidate with
      | some b =>
        if gap b.kind s.station.number ≤ s1.bus.idleTime then
          .next (State.beginAttempt { s1 with bus := s1.bus.takeCandidate } b s.bus.seq)
        else .next s1
      | none => .next s1
  else .next s

/-- TRANSMISSION_COMPLETION (R9, R11): the post leaves the register, posts sent is counted, the
consecutive-collision count returns to 0 and the sequence number advances. The own post does not arrive, and
a reception it had started ends (R16, R20, log 22). -/
def execTransmissionCompletion (s : State) : Outcome State Fault Refusal :=
  match s.driving with
  | some bytes =>
    if s.station.state.live then
      let s1 : State := { s with bus := { s.bus with
        tx := none, consecutive := 0, seq := (s.bus.seq + 1) % 16 } }
      .next ((s1.endReception.bump .postsSent).afterPost (postLevels bytes) true)
    else .next s
  | none => .next s

/-- COLLISION (R1, R11, R15): at a bit-time of the attempt this station drives idle and another drives active, so the
level read is not the one driven; every attempt has such bit-times. The attempt ends and is counted. At the 16th
in a row the post is dropped and counted; below, it stays for a retry. An attempt that a warm restart made the
last is not retried. Without an attempt there is no collision (log 1). -/
def execCollision (s : State) : Outcome State Fault Refusal :=
  match s.bus.tx with
  | some t =>
    let driven := (t.attempt.map postLevels).getD []
    if s.station.state.live ∧ driven.any (fun level => lineLevel [level, true] != level) then
      let s1 : State := { s with bus := { s.bus with idleTime := 0 } }
      let s2 := s1.bump .collisions
      if t.last then .next { s2 with bus := { s2.bus with tx := none, consecutive := 0 } }
      else if 16 ≤ s.bus.consecutive + 1 then
        .next (State.bump { s2 with bus := { s2.bus with tx := none, consecutive := 0 } } .dropped)
      else
        .next { s2 with bus := { s2.bus with
          tx := some { t with attempt := none }, consecutive := s.bus.consecutive + 1 } }
    else .next s
  | none => .next s

/-- A test post being looped is abandoned, to be looped again from its start (R20). -/
def Loopback.abandon (l : Loopback) : Loopback := { l with sent := 0, looping := false }

/-- START_SYMBOL (R1, R16, R20): after the bit-times waited an active run ends with
the line going idle, so the idle time is 0. Where the receiver looks for a start symbol and the run has 12 to 48
bit-times, a reception begins and a test post being looped is abandoned; another run is ignored. During a
reception and while the line is held no run is a start symbol (log 1). -/
def execStartSymbol (run : ActiveRun) (s : State) : Outcome State Fault Refusal :=
  if s.station.state.live ∧ s.bus.receiving = false ∧ s.bus.lineHeld = false then
    let s1 := s.idleFor run.waited
    let s2 : State := { s1 with bus := { s1.bus with idleTime := 0 } }
    if s1.bus.looking ∧ 12 ≤ run.length ∧ run.length ≤ 48 then
      .next { s2 with bus := { s2.bus with
        receiving := true
        loopback := s2.bus.loopback.map Loopback.abandon } }
    else .next s2
  else .next s

/-- ABSORPTION (R24): an idle absorber takes the oldest entry of the receive queue and becomes busy. -/
def execAbsorption (s : State) : Outcome State Fault Refusal :=
  if s.station.state.live then
    match s.peers.absorber, s.bus.rx with
    | none, e :: rest => .next { s with
        bus := { s.bus with rx := rest }
        peers := { s.peers with absorber := some e } }
    | _, _ => .next s
  else .next s

end Sys2Proof.Machine
end

