-- ==== Sys2Proof/Machine/Stages.lean ====
section
/-! DEFINITION. The thirteen stages of a control update as functions of the snapshot and the commissioning
record (chapters The Torque Governor and Retard Sharing Across the Group). -/

namespace Sys2Proof.Machine

/-! ### S1 and S2: reference speed and expected speed (R86 to R88) -/

/-- Of two candidates, the one of least magnitude, the positive one at equal magnitudes (R87). -/
def leastOf (a b : Int) : Int :=
  if a.natAbs < b.natAbs then a else if b.natAbs < a.natAbs then b else max a b

/-- Of two candidates, the one of greatest magnitude, the positive one at equal magnitudes (R87). -/
def greatestOf (a b : Int) : Int :=
  if a.natAbs < b.natAbs then b else if b.natAbs < a.natAbs then a else max a b

/-- The choice among candidates by the mode held (R87, step 2); none without a candidate. -/
def chooseSpeed (mode : Mode) : List Int → Option Int
  | [] => none
  | c :: rest => some (rest.foldl (if mode = .retard then greatestOf else leastOf) c)

/-- The candidates (R87): the own centre speed when WHEEL_SPEED is not faulted, and the posted centre
speeds of the driven peers. -/
def speedCandidates (wheel : Int) (faulted : Bool) (turnFactor : Int) (peers : Peers) : List Int :=
  (if faulted then [] else [centreSpeed wheel turnFactor])
    ++ peers.driven.filterMap StateRecord.centreSpeed

/-- v_ref within the range of R80. A selected speed beyond the range (a fast own wheel at a small F) has no
stated value: it is free within the range (log 27). -/
def refSpeedInRange (v : Int) : Int :=
  if -3000 ≤ v ∧ v ≤ 3000 then v else clampInt (-3000) 3000 (Config.refSpeedBeyond v)

/-- Stage S1 (R87): the front reference speed if present, else the chosen candidate, else the speed held. -/
def selectRef (front : Option Int) (mode : Mode) (candidates : List Int) (held : Int) : Int :=
  match front with
  | some v => v
  | none => match chooseSpeed mode candidates with
    | some v => refSpeedInRange v
    | none => held

/-! ### S3: slip (R89 to R91) -/

/-- The slip value s (R89). -/
def slipValue (uw uexp : Int) : Int :=
  clampInt (-1000) 1000 (((uw - uexp) * 1000).tdiv (max (uexp.natAbs : Int) 50))

/-- The slip class of a slip value (R89). -/
def slipClassOf (x : Int) : SlipClass :=
  if x.natAbs ≤ 30 then .grip
  else if x.natAbs ≤ 80 then .creep
  else if 80 < x then .slip
  else .skid

/-- The governing class (R90). -/
def governingClass (mode : Mode) (guard : Bool) : Option SlipClass :=
  match mode with
  | .propel => some .slip
  | .retard => if guard then some .slip else some .skid
  | .coast | .hold => none

/-- The slip factor after an update with slip governing in force (R90). -/
def nextSlipFactor (g : Nat) (cls : SlipClass) (governing : Option SlipClass) : Nat :=
  if governing = some cls then max 256 (g * 3 / 4)
  else if cls = .grip then min 1024 (g + 16)
  else g

/-- The persistence counter after an update with slip governing in force (R91). -/
def nextPersistence (n : Nat) (cls : SlipClass) (governing : Option SlipClass) : Nat :=
  if governing = some cls then countTo 200 n else 0

/-- The grip counter after an update with slip governing in force (R91). -/
def nextGrip (n : Nat) (cls : SlipClass) : Nat :=
  if cls = .grip then countTo 255 n else 0

/-! ### S4 and S5: ceiling and mode (R92, R93) -/

/-- The effective speed ceiling c (R92). -/
def effectiveCeiling (demand : Nat) (stack turn : Option Nat) (cls : PayloadClass) (heavy : Nat) : Nat :=
  minOpt (minOpt (minOpt demand stack) turn) (if cls.limited then some heavy else none)

/-- The rollback guard (R93, R94). -/
def rollback (uRef : Int) : Bool := decide (uRef < -30)

/-- The mode of the update (R93). -/
def selectMode (uRef : Int) (c : Nat) (d : DemandRecord) : Mode :=
  if rollback uRef then .retard
  else if 0 < d.retard ∨ (c : Int) < uRef then .retard
  else if 0 < d.propel ∧ d.direction ≠ .neutral then .propel
  else .coast

/-! ### S6: the demand magnitude (R94 to R96) -/

/-- The propel envelope E_p (R95). -/
def propelEnvelope (r : CommRecord) (u : Int) : Nat :=
  if u.natAbs ≤ r.baseSpeed then r.propelMax else r.propelMax * r.baseSpeed / u.natAbs

/-- The torque that a power holds at a speed, with V_FLOOR 100 cm/s (R95, R101). -/
def torqueOfPower (power radius : Nat) (u : Int) : Nat := power * radius / max u.natAbs 100

/-- The retard envelope E_r (R95). -/
def retardEnvelope (r : CommRecord) (u : Int) : Nat :=
  min r.retardMax (torqueOfPower r.gridPower r.rollingRadius u)

/-- The speed term (R96). -/
def speedTerm (gain : Nat) (uRef : Int) (c : Nat) : Nat :=
  if (c : Int) < uRef then gain * (uRef - c).toNat else 0

/-- The demand magnitude M (R96). -/
def demandMagnitude (r : CommRecord) (d : DemandRecord) (mode : Mode) (guard : Bool) (uRef : Int)
    (c : Nat) : Nat :=
  match mode with
  | .propel => d.propel * propelEnvelope r uRef / 1000
  | .retard =>
    if guard then min (r.governorGain * uRef.natAbs) (retardEnvelope r uRef)
    else min (max (d.retard * retardEnvelope r uRef / 1000) (speedTerm r.governorGain uRef c))
      (retardEnvelope r uRef)
  | .coast | .hold => 0

/-! ### S7: the retard share (R108, R109, R111) -/

/-- The capacity sum ΣC (R108). -/
def capacitySum (own : Nat) (peers : Peers) : Nat :=
  own + (peers.driven.map StateRecord.offer).sum

/-- The share of R109, 0 when the capacity sum is 0. -/
def shareOf (m n own sum : Nat) : Nat := if sum = 0 then 0 else m * n * own / sum

/-- Stage S7 (R109, R111); in PROPEL and COAST the magnitude passes. -/
def retardShare (mode : Mode) (m : Nat) (own : Nat) (peers : Peers) (linkFaulted : Bool) : Nat :=
  if mode = .retard then
    let share := shareOf m (peers.driven.length + 1) own (capacitySum own peers)
    if linkFaulted then min share (m * 512 / 1024) else share
  else m

/-! ### S8 and S9: differential and factors (R77, R98) -/

/-- The favoured wheel (R77). -/
def favoured (mode : Mode) (role : Role) : Bool :=
  (mode == .propel && role == .outer) || (mode == .retard && role == .inner)

/-- Stage S8 (R77). -/
def applyDifferential (mode : Mode) (role : Role) (d m : Nat) : Nat :=
  if favoured mode role then m * (1000 + d) / 1000 else m * (1000 - d) / 1000

/-- The winding factor (R98, R147). -/
def windingFactor (mode : Mode) (w : Nat) : Nat :=
  match mode with
  | .propel => w
  | .retard => max 512 w
  | .coast | .hold => 1024

/-- The payload factor (R98, R152). -/
def payloadFactor (mode : Mode) (cls : PayloadClass) : Nat :=
  if mode = .propel ∧ cls.limited then 922 else 1024

/-- The link factor (R98). -/
def linkFactor (mode : Mode) (v : Int) : Nat :=
  match mode with
  | .propel => if 1300 ≤ v then 1024 else if 1000 < v then (v - 1000).toNat * 1024 / 300 else 0
  | .retard => if v ≤ 2000 then 1024 else if v < 2300 then (2300 - v).toNat * 1024 / 300 else 0
  | .coast | .hold => 1024

/-- Stage S9 (R98): the four factors in order, truncating after each. -/
def applyFactors (m slip winding payload link : Nat) : Nat :=
  m * slip / 1024 * winding / 1024 * payload / 1024 * link / 1024

/-! ### S10 to S13: target, ramp, clamps, output (R99 to R102) -/

/-- The target T in travel terms (R99). -/
def targetOf (mode : Mode) (guard : Bool) (m : Nat) : Int :=
  match mode with
  | .propel => m
  | .retard => if guard then m else -(m : Int)
  | .coast | .hold => 0

/-- Stage S11 (R100), from the previous output P_t in travel terms. -/
def ramp (up down : Nat) (opening : Bool) (pt t : Int) : Int :=
  if opening then 0
  else if 0 ≤ pt * t then
    if pt.natAbs < t.natAbs then t.sign * min (t.natAbs : Int) (pt.natAbs + up)
    else if t.natAbs < pt.natAbs then pt.sign * max (t.natAbs : Int) ((pt.natAbs - down : Nat) : Int)
    else t
  else pt.sign * ((pt.natAbs - down : Nat) : Int)

/-- The limit of S12 on the magnitude (R101), from the propel ceiling in force, the two envelopes and the
capacity torque. -/
def hardLimit (mode : Mode) (propelCeiling ep capacity er : Nat) : Nat :=
  match mode with
  | .propel => min (propelCeiling * ep / 1000) ep
  | .retard => min capacity er
  | .coast | .hold => min (min (propelCeiling * ep / 1000) ep) (min capacity er)

/-- Stage S12 (R101): the magnitude limited, the sign kept. -/
def limitMagnitude (limit : Nat) (x : Int) : Int := x.sign * min (x.natAbs : Int) limit

/-- The grid power request within the range of R80. A power computed beyond 12000 kW has no stated value:
it is free within the range (log 28). -/
def requestInRange (p : Nat) : Nat := if p ≤ 12000 then p else min 12000 (Config.requestBeyond p)

/-- The grid power request (R102). -/
def gridRequest (mode : Mode) (output wheel : Int) (radius : Nat) : Nat :=
  if mode = .retard then requestInRange (output.natAbs * wheel.natAbs / radius) else 0

/-! ### The whole update -/

/-- What the thirteen stages of an update give (R87 to R104). `reduced` says that S12 cut the magnitude. -/
structure UpdateResult where
  vRef : Int
  sign : Int
  uRef : Int
  uExp : Int
  slip : SlipClass
  slipFactor : Nat
  persistence : Nat
  grip : Nat
  ceiling : Nat
  mode : Mode
  guard : Bool
  magnitude : Nat
  share : Nat
  shaped : Nat
  factored : Nat
  target : Int
  ramped : Int
  limited : Int
  output : Int
  request : Nat
  reduced : Bool
deriving DecidableEq, Repr

/-- Stages S1 to S13 on a snapshot (R82, R87 to R102). -/
def runStages (r : CommRecord) (n : Snapshot) : UpdateResult :=
  let d := n.demand.demand
  let vRef := selectRef d.frontRef n.mode
    (speedCandidates n.wheelSpeed n.wheelFaulted n.geometry.turnFactor n.peers) n.vRef
  let sign := directionSign d.direction vRef
  let uRef := vRef * sign
  let uw := n.wheelSpeed * sign
  let uExp := (uRef * n.geometry.turnFactor).tdiv 4096
  let slip := if n.wheelFaulted then .grip else slipClassOf (slipValue uw uExp)
  let c := effectiveCeiling d.ceiling n.speedCeiling n.geometry.turnCeiling n.payloadClass r.heavyCeiling
  let guard := rollback uRef
  let mode := selectMode uRef c d
  let governing := governingClass mode guard
  let g := if n.wheelFaulted then n.slipFactor else nextSlipFactor n.slipFactor slip governing
  let magnitude := demandMagnitude r d mode guard uRef c
  let share := retardShare mode magnitude n.offer n.peers n.linkFaulted
  let shaped := applyDifferential mode n.geometry.role n.geometry.diff share
  let factored := applyFactors shaped (if n.wheelFaulted then 1024 else g)
    (windingFactor mode n.derate) (payloadFactor mode n.payloadClass) (linkFactor mode n.linkVoltage)
  let target := targetOf mode guard factored
  let ramped := ramp r.rampUp r.rampDown n.opening (n.previous * sign) target
  let limit := hardLimit mode n.propelCeiling (propelEnvelope r uRef)
    (torqueOfPower n.offer r.rollingRadius uRef) (retardEnvelope r uRef)
  let limited := limitMagnitude limit ramped
  let output := limited * sign
  { vRef := vRef
    sign := sign
    uRef := uRef
    uExp := uExp
    slip := slip
    slipFactor := g
    persistence := if n.wheelFaulted then 0 else nextPersistence n.persistence slip governing
    grip := if n.wheelFaulted then n.grip else nextGrip n.grip slip
    ceiling := c
    mode := mode
    guard := guard
    magnitude := magnitude
    share := share
    shaped := shaped
    factored := factored
    target := target
    ramped := ramped
    limited := limited
    output := output
    request := gridRequest mode output n.wheelSpeed r.rollingRadius
    reduced := decide (limit < ramped.natAbs) }

/-- The three cases of R104: whether the counter becomes 0, adds 1, or keeps its value. -/
def nextShortfall (n : Nat) (u : UpdateResult) : Nat :=
  if u.uRef ≤ u.ceiling then 0
  else if u.mode = .retard ∧ !u.guard ∧ (u.ceiling : Int) + 56 < u.uRef ∧ u.reduced then countTo 40 n
  else n

end Sys2Proof.Machine
end

