-- ==== Sys2Proof/Machine/Timers.lean ====
section
/-! DEFINITION. The meanings of POST_PERIOD_EXPIRY, LISTEN_INTERVAL_END, CONTROL_PERIOD_EXPIRY and
CONTROL_UPDATE_COMPLETION. -/

namespace Sys2Proof.Machine

open Host (Outcome)

/-! ### The age clock (R30, R31, R37, R43, R159) -/

/-- The ageing of an entry at an expiry (R30); an ABSENT entry is not aged. -/
def PeerEntry.aged (e : PeerEntry) : PeerEntry :=
  if e.presence = .absent then e
  else
    let age := countTo 255 e.age
    { e with age := age, presence := presenceOfAge age }

/-- Every entry aged, and the clock reloaded with the post_period of the record (R30, R47). -/
def State.agePeers (s : State) : State :=
  { s with peers := { s.peers with
      entries := s.peers.entries.map PeerEntry.aged
      ageClock := s.station.record.postPeriod } }

/-- The peer grace count falls by 1 in RUN and HELD, before the expiry's report is judged (R159). -/
def State.countGrace (s : State) : State :=
  if s.station.state.driven then { s with prot := { s.prot with grace := s.prot.grace - 1 } } else s

/-- One ALERT DUPLICATE_HEARD if the own-number-heard marker is set (R37). -/
def State.duplicateHeard (s : State) : State :=
  if s.peers.ownHeard then
    State.alert { s with peers := { s.peers with ownHeard := false } } .duplicateHeard []
  else s

/-- The listen counter, and the leaving of LISTEN at the 16th expiry (R43). -/
def State.countListen (s : State) : State :=
  if s.station.state = .listen then
    State.leaveListen { s with station := { s.station with
      listenCounter := countTo 16 s.station.listenCounter } }
  else s

/-- The whole work of an age-clock expiry: the STATE post first (R4, R30), then the ageing, the geometry
record (R67), the grace count, the report (R31), DUPLICATE_HEARD (R37) and the listen counter (R43); the order of
the last three is the table's (log 12). -/
def State.expirePostPeriod (s : State) (faultLine : Bool) : State :=
  let s1 := s.buildStatePost.agePeers.recomputeGeometry.countGrace
  (s1.report31.duplicateHeard.showFaultLine faultLine).countListen

/-- POST_PERIOD_EXPIRY (R30): in every state except RESET and ISOLATED. -/
def execPostPeriodExpiry (faultLine : Bool) (s : State) : Outcome State Fault Refusal :=
  if s.station.state.live then .next (s.expirePostPeriod faultLine) else .next s

/-- LISTEN_INTERVAL_END (R43): the 16th expiry in LISTEN, with all the work of an expiry. An expiry that is not
the 16th in LISTEN is not this event (log 8). -/
def execListenIntervalEnd (faultLine : Bool) (s : State) : Outcome State Fault Refusal :=
  if s.station.state = .listen ∧ s.station.listenCounter = 15 then
    .next (s.expirePostPeriod faultLine)
  else .next s

/-! ### The control-period timer (R81 to R84, R86, R143, R163) -/

/-- The snapshot of a control update (R82). -/
def State.snapshot (s : State) : Snapshot where
  wheelSpeed := s.meas.channels.wheelSpeed.value
  wheelFaulted := s.meas.channels.wheelSpeed.faulted
  linkVoltage := s.meas.channels.linkVoltage.value
  linkFaulted := s.meas.channels.linkVoltage.faulted
  peers := s.peers.entries
  demand := s.demand
  geometry := s.geo
  propelCeiling := s.prot.propelCeiling
  speedCeiling := s.prot.speedCeiling
  offer := s.grid.offer
  derate := s.load.derate
  payloadClass := s.load.payloadClass
  previous := s.gov.output
  vRef := s.gov.vRef
  mode := s.gov.mode
  slipFactor := s.gov.slipFactor
  persistence := s.gov.persistence
  grip := s.gov.grip
  shortfall := s.gov.shortfall
  opening := s.gov.opening

/-- The refresh of the held reference speed outside RUN (R86). -/
def State.refreshRef (s : State) : State :=
  let w := s.meas.channels.wheelSpeed
  let d := s.demand.demand
  let vRef := selectRef d.frontRef s.gov.mode
    (speedCandidates w.value w.faulted s.geo.turnFactor s.peers.entries) s.gov.vRef
  { s with gov := { s.gov with vRef := vRef, uRef := vRef * directionSign d.direction vRef } }

/-- The governor's part of an expiry (R81): in RUN an update begins with its snapshot (R82), in every other
state the held reference speed is refreshed. -/
def State.governorExpiry (s : State) : State :=
  if s.station.state = .run then
    { s with gov := { s.gov with update := some ⟨s.snapshot, false⟩ } }
  else s.refreshRef

/-- The winding accumulator replaced, with its derate (R146). -/
def State.setAccumulator (s : State) (a : Nat) : State :=
  { s with load := { s.load with accumulator := a, derate := derateOf a } }

/-- Load accounting's judgement of WINDING_HOT (R148, R162). -/
def State.judgeWinding (s : State) : State := s.judge .windingHot s.windingHot

/-- A cooling step (R143): A falls by 256, not below 0, and w and WINDING_HOT follow. -/
def State.coolWinding (s : State) : State :=
  (s.setAccumulator (s.load.accumulator - 256)).judgeWinding

/-- The other blocks' part of an expiry: the cooling step outside RUN (R143), then the protection unit's work
(R163). -/
def State.othersExpiry (s : State) : State :=
  (if s.station.state = .run then s else s.coolWinding).protectionExpiry

/-- The timer reloaded with the control_period of the record (R47, R81). -/
def State.reloadControl (s : State) : State :=
  { s with gov := { s.gov with period := s.station.record.controlPeriod } }

/-- CONTROL_PERIOD_EXPIRY (R81, R82, R86, R143, R163), with which part comes first (R163, log 11). Each update has
completed before the next expiry (R81), so an expiry with an update in flight is no event (log 1). -/
def execControlPeriodExpiry (governorFirst : Bool) (s : State) : Outcome State Fault Refusal :=
  if s.station.state.live ∧ s.inFlight = false then
    let s1 := s.reloadControl
    .next (if governorFirst then s1.governorExpiry.othersExpiry else s1.othersExpiry.governorExpiry)
  else .next s

/-! ### CONTROL_UPDATE_COMPLETION (R84, R85, R103, R104, R142, R161, R171, R172) -/

/-- Steps 1 and 2 of R103: the output is driven, the request held, and the results are stored. -/
def State.storeUpdate (s : State) (n : Snapshot) (u : UpdateResult) : State :=
  { s with gov := { s.gov with
      output := u.output
      request := u.request
      mode := u.mode
      vRef := u.vRef
      uRef := u.uRef
      uExp := some u.uExp
      expSign := u.sign
      slip := u.slip
      slipFactor := u.slipFactor
      persistence := u.persistence
      grip := u.grip
      shortfall := nextShortfall n.shortfall u
      opening := false } }

/-- The heat of a torque (R142). -/
def windingHeat (torque : Int) (continuous : Nat) : Nat :=
  torque.natAbs * torque.natAbs * 256 / (continuous * continuous)

/-- Step 4 of R103: the winding heat of the completion is integrated (R142). -/
def State.integrateWinding (s : State) : State :=
  let q := windingHeat s.meas.channels.torqueFb.value s.station.record.continuousTorque
  (s.setAccumulator (min aMax (s.load.accumulator + q - 256))).judgeWinding

/-- The SLIP_PERSIST raise, or the withdrawal of a pending one (R91, R158, R162): withdrawal is judged with slip
governing in force, and in COAST. -/
def State.judgeSlip (s : State) (n : Snapshot) (u : UpdateResult) : State :=
  if u.persistence = 200 then s.raise .slipPersist none
  else if n.wheelFaulted = false ∨ u.mode = .coast then s.withdraw .slipPersist
  else s

/-- The setting and withdrawal of SHORTFALL (R104). -/
def State.judgeShortfall (s : State) (n : Snapshot) (u : UpdateResult) : State :=
  if u.uRef ≤ u.ceiling then { s with prot := { s.prot with shortfallReason := false } }
  else if n.shortfall < 40 ∧ nextShortfall n.shortfall u = 40 then
    { s with prot := { s.prot with shortfallReason := true } }
  else s

/-- The update is no longer in flight. -/
def State.endUpdate (s : State) : State := { s with gov := { s.gov with update := none } }

/-- Entry to HELD (R85, R171). -/
def State.enterHeld (s : State) : State :=
  let s1 := s.departRun .hold
  State.alert { s1 with
    station := { s1.station with state := .held }
    prot := { s1.prot with heldReason := true } } .holdEntered []

/-- The completion report (R171, R172): entry to HELD at zero output, standstill and the hold-request marker
set; else brake reason HELD is cleared once the motor carries the truck or no propel is asked. -/
def State.completionReport (s : State) (n : Snapshot) (u : UpdateResult) : State :=
  if u.output = 0 ∧ u.uRef.natAbs ≤ 30 ∧ s.gov.holdMarker then s.enterHeld
  else if 200 ≤ u.output.natAbs ∨ n.demand.demand.propel = 0 then
    { s with prot := { s.prot with heldReason := false } }
  else s

/-- The completion of an update that is not discarded, in the order of R103 and R161. A raise at it is a raise
during the update: it is judged with the deferred set (log 10). -/
def State.completeUpdate (s : State) (n : Snapshot) : State :=
  let u := runStages s.station.record n
  let s1 := (s.storeUpdate n u).followWheel.followTorque.integrateWinding
  let s2 := (s1.judgeSlip n u).judgeShortfall n u
  s2.endUpdate.judgeDeferred.completionReport n u

/-- The completion of a discarded update (R85, R143, R161): a cooling step in place of the integration, and the
deferred set judged. -/
def State.completeDiscarded (s : State) : State := s.coolWinding.endUpdate.judgeDeferred

/-- CONTROL_UPDATE_COMPLETION (R103), of the update in flight if there is one. -/
def execControlUpdateCompletion (s : State) : Outcome State Fault Refusal :=
  match s.gov.update with
  | some u =>
    if s.station.state.live then
      .next (if u.discarded then s.completeDiscarded else s.completeUpdate u.snapshot)
    else .next s
  | none => .next s

end Sys2Proof.Machine
end

