-- ==== Sys2Proof/Machine/Conversions.lean ====
section
/-! DEFINITION. The meaning of CONVERSION_COMPLETION (chapter Measurement Channels). -/

namespace Sys2Proof.Machine

open Host (Outcome)

/-- The result a raw result gives (R55): the speed at the tyre of a rotation rate for WHEEL_SPEED, the raw
result itself for every other channel. -/
def conversionResult (c : Channel) (raw : Int) (rollingRadius : Nat) : Int :=
  match c with
  | .wheelSpeed => (raw * rollingRadius).tdiv 10000
  | _ => raw

/-- The plausibility range of a channel (R56). -/
def plausible : Channel → Int × Int
  | .wheelSpeed => (-3000, 3000)
  | .torqueFb => (-4500, 4500)
  | .linkVoltage => (0, 2600)
  | .windingTemp => (-500, 2800)
  | .gridElementTemp => (-500, 11000)
  | .gridAirTemp => (-500, 1500)
  | .gridCurrent => (0, 2500)

/-- The comparison speed of the rate check (R57). -/
def comparisonSpeed (r : ChannelRecord) : Option Int :=
  if r.faulted then some r.value else r.lastGood

/-- The rate check of a WHEEL_SPEED result (R57). -/
def rateOk (r : ChannelRecord) (result : Int) : Bool :=
  match comparisonSpeed r with
  | some c => decide ((result - c).natAbs ≤ 150)
  | none => true

/-- The judgement of a result (R56, R57). -/
def judgeResult (c : Channel) (r : ChannelRecord) (result : Int) : Judgement :=
  if (plausible c).1 ≤ result ∧ result ≤ (plausible c).2 ∧ (c ≠ .wheelSpeed ∨ rateOk r result)
  then .good else .bad

/-- A record after a GOOD result (R58). -/
def ChannelRecord.afterGood (r : ChannelRecord) (result : Int) : ChannelRecord :=
  { r with
    status := some .good
    goodRun := countTo 255 r.goodRun
    badRun := 0
    lastGood := some result
    value := if r.faulted then r.value else result }

/-- A record after a BAD result, before a fault is marked (R59). -/
def ChannelRecord.afterBad (r : ChannelRecord) : ChannelRecord :=
  { r with
    status := some .bad
    badRun := countTo 255 r.badRun
    goodRun := 0 }

/-- A channel is marked faulted (R59): marker, fault-order list, fallback. -/
def State.markFaulted (s : State) (c : Channel) : State :=
  let r := s.meas.channels.get c
  let v := s.fallback c
  { s with meas := { s.meas with
      channels := s.meas.channels.set { r with faulted := true, value := v } c
      faultOrder := s.meas.faultOrder ++ [c] } }

/-- The update of the record by a judged result (R58, R59), with the SENSOR_FAULT raise at which the bad-run
reaches 8. -/
def State.updateRecord (s : State) (c : Channel) (j : Judgement) (result : Int) : State :=
  let r := s.meas.channels.get c
  match j with
  | .good => s.setChannel c (r.afterGood result)
  | .bad =>
    let s1 := s.setChannel c r.afterBad
    if r.afterBad.badRun = 8 then
      (if r.faulted then s1 else s1.markFaulted c).raise .sensorFault (some c)
    else s1

/-- The hand-overs at a completion (R62): LINK_HARD, the WINDING_TEMP judgement, and the GRID_ELEMENT_TEMP and
GRID_CURRENT results to the grid section (R128, R139). -/
def State.handOver (s : State) (c : Channel) (j : Judgement) (result : Int) : State :=
  match c with
  | .linkVoltage =>
    if j = .good ∧ 2300 ≤ result ∧ s.meas.channels.linkVoltage.faulted = false then
      s.receiveCause .linkHard
    else s
  | .windingTemp => s.judgeWinding
  | .gridElementTemp =>
    if j = .good then { s with grid := { s.grid with elementGood := some result } } else s
  | .gridCurrent =>
    { s with grid := { s.grid with
        currentLow := s.grid.currentLow && (j == .good && decide (result < 50)) } }
  | .wheelSpeed | .torqueFb | .gridAirTemp => s

/-- The completion of the conversion for a channel, and the begin of the next one (R54). -/
def State.completeConversion (s : State) (c : Channel) (raw : Int) : State :=
  let result := conversionResult c raw s.station.record.rollingRadius
  let j := judgeResult c (s.meas.channels.get c) result
  let s1 := (s.updateRecord c j result).handOver c j result
  { s1 with meas := { s1.meas with converting := some c.next } }

/-- CONVERSION_COMPLETION (R54 to R62), of the conversion in flight if there is one. -/
def execConversionCompletion (raw : Int) (s : State) : Outcome State Fault Refusal :=
  match s.meas.converting with
  | some c => if s.station.state.live then .next (s.completeConversion c raw) else .next s
  | none => .next s

end Sys2Proof.Machine
end

