-- ==== Sys2Proof/Machine/GridModel.lean ====
section
/-! DEFINITION. The grid section's computations (chapter The Grid Section): duty, absorbed power, thermal
model, offer, blower stages, and its work at a superframe completion. -/

namespace Sys2Proof.Machine

/-! ### Duty (R123, R124) -/

/-- The power term D_p, rounded half up (R123). -/
def powerTerm (request resistance v : Nat) : Nat :=
  if v = 0 then (if request = 0 then 0 else 4095)
  else (2 * (request * 4096 * resistance) + v * v) / (2 * (v * v))

/-- The voltage term D_v (R123). -/
def voltageTerm (v : Nat) (faulted : Bool) : Nat :=
  if 1850 < v ∧ !faulted then 20 * (v - 1850) else 0

/-- The computed duty (R123). -/
def computedDuty (request resistance v : Nat) (faulted : Bool) : Nat :=
  min 4095 (powerTerm request resistance v + voltageTerm v faulted)

/-- The duty latched at a superframe start, by the station state at that start (R124). -/
def State.dutyAtStart (s : State) (v : Nat) : Nat :=
  match s.station.state with
  | .run | .held =>
    computedDuty s.gov.request s.station.record.gridResistance v s.meas.channels.linkVoltage.faulted
  | .tripped => if s.prot.firstCause = some .linkHard ∧ 2000 ≤ v then 4095 else 0
  | _ => 0

/-- A superframe begins (R122 to R124): frame 1, count 1, the duty and the voltage latched, and the
gathering of GRID_CURRENT results begun anew (R139). -/
def State.beginSuperframe (s : State) : State :=
  let v := s.meas.channels.linkVoltage.value.toNat
  { s with grid := { s.grid with
      elapsed := 0
      duty := s.dutyAtStart v
      latchedVoltage := v
      currentLow := true
      counted := true } }

/-! ### Power, model and temperatures (R126 to R131) -/

/-- P_act (R126). -/
def absorbedPower (duty v resistance : Nat) : Nat := duty * (v * v) / (4096 * resistance)

/-- The cooling coefficient K of an established stage; 60 while a blower fault is present (R129). -/
def coolingCoefficient (stage : Nat) (blowerFault : Bool) : Nat :=
  if blowerFault then 60
  else match stage with
    | 0 => 60
    | 1 => 180
    | 2 => 290
    | _ => 400

/-- One step of the thermal model (R129). -/
def stepModel (theta air : Int) (power k density : Nat) : Int :=
  clampInt (air * 65536) (12000 * 65536)
    (theta + power * 35 - ((theta - air * 65536) * (k * density : Nat)).tdiv 536870912)

/-- The model after a completion: stepped if it has started, started if a GOOD GRID_ELEMENT_TEMP result
has been handed over, else still unset (R127, R128). -/
def State.nextTheta (s : State) (power : Nat) : Option Int :=
  let air := s.meas.channels.gridAirTemp.value
  match s.grid.theta with
  | some t => some (stepModel t air power
      (coolingCoefficient s.grid.established s.grid.blowerFault) s.station.record.airDensity)
  | none => s.grid.elementGood.map (fun e => max e air * 65536)

/-- The grid temperature T_g (R131). -/
def gridTempOf (tm : Option Int) (element : ChannelRecord) : Option Int :=
  tm.map (fun t => if element.faulted then t else max t element.value)

/-! ### Capacity offer (R132) -/

/-- The offer of a temperature (R132, step 2). -/
def offerOfTemp (gridPower : Nat) (tg : Int) : Nat :=
  if tg ≤ 5000 then gridPower
  else if 6000 ≤ tg then 0
  else gridPower * (6000 - tg).toNat / 1000

/-- The capacity offer (R132), worked out at superframe completions alone, with the station state as it then is
(log 32). -/
def State.offerNow (s : State) (tg : Option Int) : Nat :=
  match tg with
  | none => 0
  | some t =>
    if s.station.state = .run ∧ s.prot.firstCause = none then
      let full := offerOfTemp s.station.record.gridPower t
      if s.grid.blowerFault then full / 2 else full
    else 0

/-! ### Blowers (R134 to R137) -/

/-- The up thresholds U_s and down thresholds L_s of stages 1 to 3 (R134). -/
def upThreshold : Nat → Int
  | 1 => 2000 | 2 => 3500 | _ => 4500
def downThreshold : Nat → Int
  | 1 => 1700 | 2 => 3200 | _ => 4200

/-- The highest stage of 1 to 3 that meets a condition; 0 if none does. -/
def highestStage (ok : Nat → Bool) : Nat :=
  if ok 3 then 3 else if ok 2 then 2 else if ok 1 then 1 else 0

/-- The requested stage q from the target r, the model temperature and the duty just completed (R134). -/
def requestedStage (r : Nat) (tm : Int) (duty : Nat) : Nat :=
  let up := highestStage (fun s => decide (r < s ∧ upThreshold s ≤ tm))
  let q :=
    if up ≠ 0 then up
    else if 0 < r ∧ tm < downThreshold r then
      highestStage (fun s => decide (s < r ∧ downThreshold s ≤ tm))
    else r
  if 0 < duty ∧ q = 0 then 1 else q

/-- What the grid section does with the requested stage (R135, R136). -/
def Grid.act (g : Grid) (q : Nat) : Grid :=
  match g.spinUp with
  | none =>
    if g.established < q then { g with target := q, spinUp := some 125 }
    else if q < g.established then { g with established := q, target := q }
    else g
  | some _ =>
    if g.target < q then { g with target := q, spinUp := some 125 }
    else if q = g.target then g
    else if q = g.established then { g with target := q, spinUp := none }
    else if q < g.established then { g with established := q, target := q, spinUp := none }
    else { g with target := q, spinUp := some 125 }

/-- The check of the blower-running line at a spin-up's completion (R137). -/
def State.spinUpCheck (s : State) (running : Bool) : State :=
  let s1 : State := { s with pins := { s.pins with blowerRunning := running } }
  if running then
    { s1 with grid := { s1.grid with established := s1.grid.target, spinUp := none, blowerFault := false } }
  else
    let s2 : State := { s1 with grid := { s1.grid with
      target := s1.grid.established, spinUp := none, blowerFault := true } }
    if s1.grid.blowerFault then s2 else s2.alert .blowerFault []

/-- The count-down of a spin-up, and its completion (R136, R137). -/
def State.countSpinUp (s : State) (running : Bool) : State :=
  match s.grid.spinUp with
  | none => s
  | some n =>
    if n ≤ 1 then s.spinUpCheck running
    else { s with grid := { s.grid with spinUp := some (n - 1) } }

/-! ### Open grid (R139) -/

/-- The grid-open counter after a completion, before GRID_OPEN is raised (R139). A superframe in flight at a
warm restart is not counted. -/
def State.nextOpenCounter (s : State) : Nat :=
  if s.meas.channels.gridCurrent.faulted || !s.grid.counted then 0
  else if 1024 ≤ s.grid.duty ∧ s.grid.currentLow then s.grid.openCounter + 1
  else 0

/-- Step 6 of R127: the counter, and GRID_OPEN when it reaches 8, at which it returns to 0. -/
def State.judgeGridOpen (s : State) : State :=
  let n := s.nextOpenCounter
  if 8 ≤ n then
    State.receiveCause { s with grid := { s.grid with openCounter := 0 } } .gridOpen
  else { s with grid := { s.grid with openCounter := n } }

/-! ### The work at a superframe completion (R127) -/

/-- Steps 1 to 4: power, model, temperatures and offer (R126 to R132). -/
def State.stepThermal (s : State) : State :=
  let power := absorbedPower s.grid.duty s.grid.latchedVoltage s.station.record.gridResistance
  let theta := s.nextTheta power
  let tg := gridTempOf (theta.map (fun t => t.tdiv 65536)) s.meas.channels.gridElementTemp
  { s with grid := { s.grid with theta := theta, gridTemp := tg, offer := s.offerNow tg } }

/-- Step 8: the requested stage is worked out and acted on (R134 to R136). -/
def State.actOnStage (s : State) : State :=
  let q := requestedStage s.grid.target (s.grid.modelTemp.getD 0) s.grid.duty
  { s with grid := s.grid.act q }

/-- The eight steps of R127 in order, then the begin of the next superframe. -/
def State.completeSuperframe (s : State) (running : Bool) : State :=
  let s1 := s.stepThermal
  let s2 := s1.judge .gridHot s1.gridHot
  let s3 := s2.judgeGridOpen
  let s4 := s3.countSpinUp running
  s4.actOnStage.beginSuperframe

end Sys2Proof.Machine
end

