-- ==== Sys2Proof/Machine/GridSteps.lean ====
section
/-! DEFINITION. The meanings of SUPERFRAME_COMPLETION and SPIN_UP_COMPLETION. -/

namespace Sys2Proof.Machine

open Host (Outcome)

/-- SUPERFRAME_COMPLETION (R127), in every station state except RESET (R122), with the level of the blower-running
line, read if a spin-up completes at it (R137). -/
def execSuperframeCompletion (blowerRunning : Bool) (s : State) : Outcome State Fault Refusal :=
  if s.station.state = .reset then .next s else .next (s.completeSuperframe blowerRunning)

/-- SPIN_UP_COMPLETION (R136, R137): the superframe completion at which the remaining count reaches 0. Without a
spin-up that completes there is no such event (log 7). -/
def execSpinUpCompletion (blowerRunning : Bool) (s : State) : Outcome State Fault Refusal :=
  if s.station.state ≠ .reset ∧ s.grid.spinUp = some 1 then .next (s.completeSuperframe blowerRunning)
  else .next s

end Sys2Proof.Machine
end

