-- ==== Sys2Proof/Machine/Lines.lean ====
section
/-! DEFINITION. The meanings of STOP_LINE_ASSERTED, STOP_LINE_INACTIVE and POWER_STAGE_FAULT. -/

namespace Sys2Proof.Machine

open Host (Outcome)

/-- The level of the stop line, and the protection unit's record of it in the states in which an event reaches
it (R44, R168, R177). -/
def State.showStopLine (s : State) (level : Bool) : State :=
  let s1 : State := { s with pins := { s.pins with stopLine := level } }
  if s.station.state.live then { s1 with prot := { s1.prot with stopLine := level } } else s1

/-- STOP_LINE_ASSERTED (R7, R168): at a change from inactive to asserted the state is recorded, an ORDER STOP to ALL
is offered, and a STOP is received. In RESET and ISOLATED only the line changes (R44). -/
def execStopLineAsserted (s : State) : Outcome State Fault Refusal :=
  if s.pins.stopLine then .next s
  else
    let s1 := s.showStopLine true
    .next (if s.station.state.live then s1.stopLineAsserted else s1)

/-- STOP_LINE_INACTIVE (R168): the stop-line state is recorded as inactive. -/
def execStopLineInactive (s : State) : Outcome State Fault Refusal :=
  .next (s.showStopLine false)

/-- POWER_STAGE_FAULT (R173): the fault line becomes asserted, an OVERCURRENT cause. -/
def execPowerStageFault (s : State) : Outcome State Fault Refusal :=
  .next ((s.showFaultLine true).receiveCause .overcurrent)

end Sys2Proof.Machine
end

