-- ==== Sys2Proof/Machine/Dispatch.lean ====
section
/-! DEFINITION. exec: the effect of each command on everything but the queue, one arm per row of
spec/opcode_table.json. -/

namespace Sys2Proof.Machine

/-- The effect of a command. -/
def exec (i : Instr) (s : State) : Host.Outcome State Fault Refusal :=
  match i with
  | .coldReset => Sys2Proof.Machine.execColdReset s
  | .resetRelease straps => Sys2Proof.Machine.execResetRelease straps s
  | .selfCheckCompletion flipsA flipsB faultLine => Sys2Proof.Machine.execSelfCheckCompletion flipsA flipsB faultLine s
  | .postArrival levels => Sys2Proof.Machine.execPostArrival levels s
  | .lineHeldEpisode => Sys2Proof.Machine.execLineHeldEpisode s
  | .lineHeldEnd => Sys2Proof.Machine.execLineHeldEnd s
  | .postTransmission waited => Sys2Proof.Machine.execPostTransmission waited s
  | .transmissionCompletion => Sys2Proof.Machine.execTransmissionCompletion s
  | .collision => Sys2Proof.Machine.execCollision s
  | .absorption => Sys2Proof.Machine.execAbsorption s
  | .lineHeldEntry => Sys2Proof.Machine.execLineHeldEntry s
  | .taggedPost => Sys2Proof.Machine.execTaggedPost s
  | .state => Sys2Proof.Machine.execState s
  | .alert => Sys2Proof.Machine.execAlert s
  | .report => Sys2Proof.Machine.execReport s
  | .demand => Sys2Proof.Machine.execDemand s
  | .config => Sys2Proof.Machine.execConfig s
  | .query => Sys2Proof.Machine.execQuery s
  | .stop => Sys2Proof.Machine.execStop s
  | .release => Sys2Proof.Machine.execRelease s
  | .clearTrip faultLine => Sys2Proof.Machine.execClearTrip faultLine s
  | .acknowledge => Sys2Proof.Machine.execAcknowledge s
  | .restart straps => Sys2Proof.Machine.execRestart straps s
  | .lock faultLine => Sys2Proof.Machine.execLock faultLine s
  | .postPeriodExpiry faultLine => Sys2Proof.Machine.execPostPeriodExpiry faultLine s
  | .listenIntervalEnd faultLine => Sys2Proof.Machine.execListenIntervalEnd faultLine s
  | .controlPeriodExpiry governorFirst => Sys2Proof.Machine.execControlPeriodExpiry governorFirst s
  | .controlUpdateCompletion => Sys2Proof.Machine.execControlUpdateCompletion s
  | .conversionCompletion raw => Sys2Proof.Machine.execConversionCompletion raw s
  | .superframeCompletion blowerRunning => Sys2Proof.Machine.execSuperframeCompletion blowerRunning s
  | .spinUpCompletion blowerRunning => Sys2Proof.Machine.execSpinUpCompletion blowerRunning s
  | .stopLineAsserted => Sys2Proof.Machine.execStopLineAsserted s
  | .stopLineInactive => Sys2Proof.Machine.execStopLineInactive s
  | .powerStageFault => Sys2Proof.Machine.execPowerStageFault s
  | .startSymbol run => Sys2Proof.Machine.execStartSymbol run s

end Sys2Proof.Machine
end

