-- ==== Sys2Proof/Decode.lean ====
section
/-! DEFINITION. The command that a word of spec/opcode_table.json spells. The table gives none of its 35
rows bits (each row's "fields" is empty and no row has "fixed"), so no word spells a command. The bytes of
posts are decoded by the receiver's rules in Sys2Proof/Machine/Wire.lean. -/

namespace Sys2Proof

/-- The command a table word of `nbits` bits spells: none, since no row of the table gives bits. -/
def decodeTableWord (nbits w : Nat) : Option Instr :=
  let _ := nbits
  let _ := w
  none

end Sys2Proof
end

