-- ==== Sys2Proof/Machine/Queue.lean ====
section
/-! DEFINITION. The queue of waiting commands and the passing of one bit-time on an empty queue. -/

namespace Sys2Proof.Machine

/-- The state with another queue. -/
def State.withPending (s : State) (q : List Instr) : State := { s with pending := q }

/-- A command put at the front of the queue, if there is one. -/
def State.enqueueFirst (s : State) (c : Option Instr) : State :=
  match c with
  | some i => s.withPending (i :: s.pending)
  | none => s

/-- One bit-time of 2 µs passes (R1, R20, R122, log 2): in every state except RESET the frame position advances to the
end of its superframe and the idle time counts while the line is idle, and a test post being looped advances. -/
def State.passBitTime (s : State) : State :=
  if s.station.state = .reset then s
  else
    let s1 := s.idleFor 1
    { s1 with
      grid := { s1.grid with elapsed := countTo 7999 s1.grid.elapsed }
      bus := { s1.bus with loopback := s1.bus.loopback.map (fun l => if l.looping then l.tick else l) } }

end Sys2Proof.Machine
end

