-- ==== Sys2Proof/Machine/Step.lean ====
section
/-! DEFINITION. One step of the part: the command at the front of the queue, or, on an empty queue, one bit-time. -/

namespace Sys2Proof.Machine

/-- One step: the command at the front of the queue runs on the state with the queue's rest; on an empty queue
one bit-time passes (log 2). -/
def step (s : State) : Host.Outcome State Fault Refusal :=
  match s.pending with
  | c :: rest => exec c (s.withPending rest)
  | [] => .next s.passBitTime

/-- The command a table word spells, put at the front of the queue; as it was where the word spells none. -/
def State.withFetchWord (s : State) (nbits w : Nat) : State := s.enqueueFirst (decodeTableWord nbits w)

end Sys2Proof.Machine
end

