-- ==== Sys2Proof/Safety.lean ====
section
/-! DEFINITION. What the rules say holds of the part at every moment: the invariants that statements and proofs
speak of. Each is a plain decidable proposition about one state. -/

namespace Sys2Proof.Machine

/-- The response stack (R156): BASE at the bottom, levels strictly decreasing from bottom to top (listed from
the top, they strictly rise). -/
abbrev Protection.StackOrdered (p : Protection) : Prop :=
  p.stack.getLast? = some Context.base ∧
  (p.stack.map (fun x => x.cls.level)).Pairwise (· < ·)

/-- The pending and deferred sets (R157): a pending class has a level greater than the top level and is not on
the stack; STOP is never pending; no class is in both sets, nor deferred and on the stack; BASE is in neither. -/
abbrev Protection.SetsApart (p : Protection) : Prop :=
  (p.pendingSet.map ProtClass.level).Pairwise (· < ·) ∧
  (p.deferredSet.map ProtClass.level).Pairwise (· < ·) ∧
  (∀ c ∈ p.pendingSet, p.topLevel < c.level ∧ p.onStack c = false ∧ c ≠ .stop ∧ c ≠ .base) ∧
  (∀ c ∈ p.deferredSet, p.onStack c = false ∧ c ∉ p.pendingSet ∧ c ≠ .base)

/-- The protection unit's stack and sets are as R156 and R157 say. -/
abbrev State.StackInv (s : State) : Prop := s.prot.StackOrdered ∧ s.prot.SetsApart

/-- The queues hold what R13 and R18 allow, and the sequence number and the consecutive-collision count lie in
their ranges (R9, R11). -/
abbrev State.QueueInv (s : State) : Prop :=
  s.bus.urgent.length ≤ 4 ∧ s.bus.rx.length ≤ 8 ∧ s.bus.seq < 16 ∧ s.bus.consecutive < 16

/-- Every counter is a 16-bit count (R183). -/
abbrev State.CounterInv (s : State) : Prop :=
  s.counters.postsSent ≤ 65535 ∧ s.counters.collisions ≤ 65535 ∧ s.counters.dropped ≤ 65535 ∧
  s.counters.stateReplacements ≤ 65535 ∧ s.counters.urgentOverflows ≤ 65535 ∧
  s.counters.receivedGood ≤ 65535 ∧ s.counters.checkTags ≤ 65535 ∧ s.counters.formTags ≤ 65535 ∧
  s.counters.overruns ≤ 65535 ∧ s.counters.duplicates ≤ 65535 ∧
  s.counters.lineHeldEpisodes ≤ 65535 ∧ s.counters.refusedOrders ≤ 65535 ∧
  s.counters.configAfterLock ≤ 65535 ∧ s.counters.configClamps ≤ 65535 ∧
  s.counters.overcurrentTrips ≤ 65535 ∧ s.counters.linkHardTrips ≤ 65535 ∧
  s.counters.gridOpenTrips ≤ 65535 ∧ s.counters.stopTakes ≤ 65535 ∧
  s.counters.duplicateOwnNumber ≤ 65535

/-- The update in flight: one that is not to be discarded was begun in RUN, which the station has not left, and
its snapshot's previous output is the output still being driven (R82, R83, R85). -/
abbrev Update.Current (u : Update) (s : State) : Prop :=
  u.discarded = false → s.station.state = .run ∧ u.snapshot.previous = s.gov.output

/-- The torque output and the grid power request are non-zero only in RUN (R50, R85). -/
abbrev State.OutputInv (s : State) : Prop :=
  (s.station.state ≠ .run → s.gov.output = 0 ∧ s.gov.request = 0) ∧
  (match s.gov.update with
    | some u => u.Current s
    | none => True)

/-- The trip latch (R174 to R176): set exactly in TRIPPED (in RESET it waits for the release), the cause set
beginning with the first cause and holding each cause at most once. -/
abbrev State.LatchInv (s : State) : Prop :=
  (s.station.state ≠ .reset → (s.station.state = .tripped ↔ s.prot.firstCause.isSome)) ∧
  s.prot.causes.head? = s.prot.firstCause ∧ s.prot.causes.Nodup

/-- The geometry record agrees with the demand in force, the side and the commissioning record (R67), in the
states in which its inputs can change. -/
abbrev State.GeometryInv (s : State) : Prop :=
  s.station.state.live → s.geo = s.geometry

/-- The fault-order list holds exactly the faulted channels, each once (R53). -/
abbrev State.FaultOrderInv (s : State) : Prop :=
  s.meas.faultOrder.Nodup ∧
  (∀ c ∈ s.meas.faultOrder, (s.meas.channels.get c).faulted = true) ∧
  (∀ c ∈ [Channel.wheelSpeed, .torqueFb, .linkVoltage, .windingTemp, .gridElementTemp, .gridAirTemp,
      .gridCurrent], (s.meas.channels.get c).faulted = true → c ∈ s.meas.faultOrder)

/-- The winding accumulator and its derate (R141, R146). -/
abbrev State.WindingInv (s : State) : Prop :=
  s.load.accumulator ≤ aMax ∧ s.load.derate = derateOf s.load.accumulator

/-- Every commissioning item lies within its range (R45). -/
abbrev CommRecord.InRange (r : CommRecord) : Prop :=
  (3000 ≤ r.wheelbase ∧ r.wheelbase ≤ 9000) ∧ (1000 ≤ r.rollingRadius ∧ r.rollingRadius ≤ 2200) ∧
  (1000 ≤ r.halfTrack ∧ r.halfTrack ≤ 3500) ∧ (500 ≤ r.propelMax ∧ r.propelMax ≤ 4000) ∧
  (100 ≤ r.baseSpeed ∧ r.baseSpeed ≤ 1500) ∧ (500 ≤ r.retardMax ∧ r.retardMax ≤ 4000) ∧
  (200 ≤ r.gridPower ∧ r.gridPower ≤ 4000) ∧ (200 ≤ r.gridResistance ∧ r.gridResistance ≤ 5000) ∧
  (50 ≤ r.ratedPayload ∧ r.ratedPayload ≤ 500) ∧ (128 ≤ r.airDensity ∧ r.airDensity ≤ 256) ∧
  (2 ≤ r.controlPeriod ∧ r.controlPeriod ≤ 10) ∧ (5 ≤ r.postPeriod ∧ r.postPeriod ≤ 50) ∧
  (1 ≤ r.minDriven ∧ r.minDriven ≤ 4) ∧ (1 ≤ r.governorGain ∧ r.governorGain ≤ 40) ∧
  (5 ≤ r.rampUp ∧ r.rampUp ≤ 400) ∧ (5 ≤ r.rampDown ∧ r.rampDown ≤ 800) ∧
  (50 ≤ r.lateralLimit ∧ r.lateralLimit ≤ 400) ∧
  (200 ≤ r.continuousTorque ∧ r.continuousTorque ≤ 4000) ∧
  (300 ≤ r.heavyCeiling ∧ r.heavyCeiling ≤ 3000) ∧ (100 ≤ r.orphanCeiling ∧ r.orphanCeiling ≤ 1500)

/-- The commissioning record in its ranges (R45), and locked in every state that a LOCK leads to (R39, R48). -/
abbrev State.RecordInv (s : State) : Prop :=
  s.station.record.InRange ∧
  (s.station.locked = false → s.station.state = .reset ∨ s.station.state = .listen ∨
    s.station.state = .commission ∨ s.station.state = .isolated)

/-- A peer entry's presence follows its age, and an ABSENT entry has the values of R22 (R22, R30). -/
abbrev PeerEntry.Consistent (e : PeerEntry) : Prop :=
  (e.presence = .absent → e = .absent) ∧ (e.presence ≠ .absent → e.presence = presenceOfAge e.age)
    ∧ e.age ≤ 255 ∧ e.missed ≤ 65535

/-- Every peer entry is consistent, and the own number has no entry (R22). -/
abbrev State.PeerInv (s : State) : Prop :=
  s.peers.entries.e0.Consistent ∧ s.peers.entries.e1.Consistent ∧ s.peers.entries.e2.Consistent ∧
  s.peers.entries.e3.Consistent ∧ s.peers.entries.e4.Consistent ∧
  (∀ i ∈ [StationId.s0, .s1, .s2, .s3, .s4], i.num = s.station.number →
    s.station.state ≠ .reset → (s.peers.entries.get i).presence = .absent)

/-- The grid section's items lie in their ranges (R121), and while no spin-up is in flight the target stage
equals the established stage, while one is it lies above (R135, R136). What the latched voltage and the offer follow
from stays in step with them: the LINK_VOLTAGE record holds plausible values (R56, R60), and an unlocked record, whose
grid_power can still change, goes with an offer of 0 (R46, R132). -/
abbrev State.GridInv (s : State) : Prop :=
  s.grid.elapsed ≤ 7999 ∧ s.grid.duty ≤ 4095 ∧ s.grid.established ≤ 3 ∧ s.grid.target ≤ 3 ∧
  s.grid.openCounter ≤ 8 ∧ s.grid.latchedVoltage ≤ 2600 ∧ s.grid.offer ≤ s.station.record.gridPower ∧
  (s.station.locked = false → s.grid.offer = 0) ∧
  (0 ≤ s.meas.channels.linkVoltage.value ∧ s.meas.channels.linkVoltage.value ≤ 2600) ∧
  (match s.meas.channels.linkVoltage.lastGood with
    | some v => 0 ≤ v ∧ v ≤ 2600
    | none => True) ∧
  (match s.grid.spinUp with
    | none => s.station.state ≠ .reset → s.grid.target = s.grid.established
    | some n => 1 ≤ n ∧ n ≤ 125 ∧ s.grid.established < s.grid.target)

/-- In RESET and ISOLATED no operation is in flight that could act on the part (R40, R44), and no test post is
being looped while a line reception is in progress (R20). -/
abbrev State.QuietInv (s : State) : Prop :=
  (s.station.state.live = false →
    s.peers.absorber = none ∧ s.meas.converting = none ∧ s.gov.update = none ∧ s.bus.loopback = none ∧
    s.bus.receiving = false ∧ s.driving = none) ∧
  (match s.bus.loopback with
    | some l => l.looping = true → s.bus.receiving = false
    | none => True)

/-! ### Posts that can be sent, and the command that an absorbed post is -/

/-- The coded arguments of an ALERT hold values of their tables (R6, R17, log 14): for CONTEXT_TAKEN a class and then
channels, for CONTEXT_CLEARED a class, for TRIP a cause. -/
abbrev ArgumentsRight (kind : Nat) (args : List Nat) : Prop :=
  (kind = 1 → (∀ a ∈ args.take 1, a ≤ 7) ∧ ∀ a ∈ args.drop 1, 1 ≤ a ∧ a ≤ 7) ∧
  (kind = 2 → ∀ a ∈ args, a ≤ 7) ∧
  (kind = 3 → ∀ a ∈ args, 1 ≤ a ∧ a ≤ 3)

/-- The form examination of R17, step 3, on the kind, the source, the presence and the body of a post, as numbers: no
item of its list applies. (The coded arguments, and an argument count of CONTEXT_TAKEN whatever its class: log
14; any top level: log 13.) -/
abbrev FormRight (kind source presence : Nat) (body : List Nat) : Prop :=
  source ≤ 4 ∧
  match kind, body with
  | 1, [state, mode, _, slip, w1, w0, c1, c0, _, _, _, _, _, _, brake, cause] =>
    presence ≤ 3 ∧ state ≤ 7 ∧ mode ≤ 3 ∧ slip ≤ 3 ∧ brake ≤ 1 ∧
    (presence % 2 = 0 → w1 = 0 ∧ w0 = 0 ∧ c1 = 0 ∧ c0 = 0) ∧
    (presence < 2 → cause = 0) ∧ (2 ≤ presence → 1 ≤ cause ∧ cause ≤ 3)
  | 2, [direction, hold, _, _, _, _, _, _, _, _, p1, p0, f1, f0] =>
    presence ≤ 3 ∧ 1 ≤ direction ∧ direction ≤ 3 ∧ hold ≤ 1 ∧
    (presence % 2 = 0 → p1 = 0 ∧ p0 = 0) ∧ (presence < 2 → f1 = 0 ∧ f0 = 0)
  | 3, alert :: count :: rest =>
    presence = 0 ∧ 1 ≤ alert ∧ alert ≤ 9 ∧
    (alert = 1 → 1 ≤ count ∧ count ≤ 8) ∧ (alert = 2 ∨ alert = 3 ∨ alert = 7 → count = 1) ∧
    (alert = 4 ∨ alert = 5 ∨ alert = 6 ∨ alert = 8 ∨ alert = 9 → count = 0) ∧
    rest.length + 2 = 2 * ((count - 1) / 2) + 4 ∧ ArgumentsRight alert (rest.take count)
  | 4, [order, target, argument, _] =>
    presence = 0 ∧ 1 ≤ order ∧ order ≤ 6 ∧ (1 ≤ target ∧ target ≤ 4 ∨ target = 15) ∧
    (order = 4 → argument ≤ 7)
  | 5, [target, _, _, _] => presence = 0 ∧ 1 ≤ target ∧ target ≤ 4
  | 6, [target, page, _, _] => presence = 0 ∧ 1 ≤ target ∧ target ≤ 4 ∧ 1 ≤ page ∧ page ≤ 6
  | 7, page :: _ :: count :: rest =>
    presence = 0 ∧ 1 ≤ page ∧ page ≤ 6 ∧ count ≤ 31 ∧ rest.length + 3 = 2 * (count / 2) + 4
  | _, _ => False

/-- A number that two bytes hold in two's complement (R2). -/
abbrev FitsSigned (i : Int) : Prop := -32768 ≤ i ∧ i ≤ 32767

/-- A body whose fields have a place in the bytes of R2 and whose coded fields hold values of their tables (R2, R6,
R7, R8): what a station can send. Numeric ranges narrower than their bytes are not asked for (R17), nor is one of the top level
(log 13). -/
abbrev Body.Sendable : Body → Prop
  | .state r => r.wheelSpeed.isSome = r.centreSpeed.isSome ∧ r.topLevel < 256 ∧
      FitsSigned (r.wheelSpeed.getD 0) ∧ FitsSigned (r.centreSpeed.getD 0) ∧ FitsSigned r.torque ∧
      r.offer < 65536 ∧ FitsSigned r.gridTemp
  | .demand r => r.propel < 65536 ∧ r.retard < 65536 ∧ FitsSigned r.steer ∧ r.ceiling < 65536 ∧
      r.payload.getD 0 < 65536 ∧ FitsSigned (r.frontRef.getD 0)
  | .alert k args => k.legalCount args.length = true ∧ k.legalArgs args = true ∧ ∀ a ∈ args, a < 256
  | .order k target argument => (stationTarget target = true ∨ target = targetAll) ∧ argument < 256 ∧
      k.legalArgument argument = true
  | .config target item value => stationTarget target = true ∧ item < 256 ∧ value < 65536
  | .query target _ index => stationTarget target = true ∧ index < 256
  | .report _ index data => index < 256 ∧ data.length ≤ 31

/-- The absorber is completing the absorption of post `p`, which another station sent, in a state in which
absorption runs, and `p` is no duplicate: the post is accepted (R24 to R26). -/
abbrev State.Accepting (s : State) (p : Post) : Prop :=
  s.station.state.live = true ∧ s.peers.absorber = some (.good p) ∧ p.source.num ≠ s.station.number ∧
  ¬ ((s.peers.entries.get p.source).presence ≠ .absent ∧
      (s.peers.entries.get p.source).lastSeq = some p.seq ∧
      (s.peers.entries.get p.source).lastKind = some p.body.kind)

/-- The target a post names, if its kind has one (R2). -/
def Body.target : Body → Option Nat
  | .config target _ _ | .query target _ _ | .order _ target _ => some target
  | .state _ | .demand _ | .alert _ _ | .report _ _ _ => none

/-- Post `p` is an order of kind `k` for this station, with argument `a` (R28). -/
abbrev Post.OrderFor (p : Post) (s : State) (k : OrderKind) (a : Nat) : Prop :=
  p.body = .order k s.station.number a ∨ p.body = .order k targetAll a

/-- Post `p` hands nothing on besides the sender's entry (R28, R29): a STATE, ALERT or REPORT, a DEMAND, CONFIG or QUERY
of another station than the host, a CONFIG or QUERY for another station, an order for another station. -/
abbrev Post.GoesNoFurther (p : Post) (s : State) : Prop :=
  p.body.kind ∈ [PostKind.state, .alert, .report] ∨
  (p.body.kind ∈ [PostKind.demand, .config, .query] ∧ p.source ≠ .s0) ∨
  (∃ target ∈ p.body.target, target ≠ s.station.number ∧ target ≠ targetAll)

/-- The host's post with body `b` is accepted at this completion of an absorption (R25, R26). -/
abbrev State.AcceptingHost (s : State) (p : Post) (b : Body) : Prop :=
  s.Accepting p ∧ p.source = .s0 ∧ p.body = b

/-- A class that the report of R31 does not judge. -/
abbrev ProtClass.NotReported (c : ProtClass) : Prop := c ≠ .payloadOver ∧ c ≠ .peerLoss

/-- `t` is `a` after a report of R31 and no more: load accounting has classified the payload of the demand in force
(R151); PAYLOAD_OVER has been raised if its class is OVER and withdrawn if not, PEER_LOSS raised if the station is in
RUN or HELD with fewer usable driven stations than min_driven and the grace count run out, and withdrawn if not (R158,
R159, R162), in this order unless both are raised (log 9); and everything else is as in `a`, the geometry record
apart. -/
abbrev State.ReportFollows (a t : State) : Prop :=
  t.pins = a.pins ∧ t.station = a.station ∧ t.peers = a.peers ∧ t.meas = a.meas ∧ t.gov = a.gov ∧
  t.grid = a.grid ∧ t.pending = a.pending ∧
  t.load = { a.load with
    percentage := (classify a.demand.demand.payload a.station.record.ratedPayload).1
    payloadClass := (classify a.demand.demand.payload a.station.record.ratedPayload).2
    standing := a.demand.standing } ∧
  (let tooMuch : Bool := (classify a.demand.demand.payload a.station.record.ratedPayload).2 == .over
   let loss : Bool := decide ((a.station.state = .run ∨ a.station.state = .held) ∧
     a.usableCount < a.station.record.minDriven ∧ a.prot.grace = 0)
   let u := (a.judge .payloadOver tooMuch).judge .peerLoss loss
   let w := (a.judge .peerLoss loss).judge .payloadOver tooMuch
   (t.prot = u.prot ∧ t.bus = u.bus ∧ t.counters = u.counters) ∨
     (tooMuch = true ∧ loss = true ∧ t.prot = w.prot ∧ t.bus = w.bus ∧ t.counters = w.counters)) ∧
  t.bus = { a.bus with urgent := t.bus.urgent } ∧ a.bus.urgent <+: t.bus.urgent ∧
  t.counters = { a.counters with urgentOverflows := t.counters.urgentOverflows } ∧
  t.prot = { a.prot with
    stack := t.prot.stack, pendingSet := t.prot.pendingSet, deferredSet := t.prot.deferredSet } ∧
  t.prot.stack.filter (fun x => decide x.cls.NotReported)
    = a.prot.stack.filter (fun x => decide x.cls.NotReported) ∧
  t.prot.pendingSet.filter (fun c => decide c.NotReported)
    = a.prot.pendingSet.filter (fun c => decide c.NotReported) ∧
  t.prot.deferredSet.filter (fun c => decide c.NotReported)
    = a.prot.deferredSet.filter (fun c => decide c.NotReported)

/-- The stack and the sets of `q` are those of `p` after an update's completion at which the classes of `raised` were
raised and those of `withdrawn` withdrawn (R160 to R162): a raised class on the stack is refreshed; the lowest deferred
class below the top level, those raised now among them, is taken on top; every other class that was deferred, or
raised, or pending and not withdrawn, is pending; none is deferred any more. `seq`, `speed` and `torque` are the entry
fields of a take, `faults` the channels of a SENSOR_FAULT (R156). -/
abbrev Protection.Judged (p q : Protection) (raised withdrawn : ProtClass → Bool) (seq : Nat) (speed torque : Int)
    (faults : List Channel) : Prop :=
  let deferred := fun (c : ProtClass) => c ∈ p.deferredSet ∨
    (raised c = true ∧ p.onStack c = false ∧ c ∉ p.pendingSet ∧ c.level < p.topLevel)
  let taken := fun (c : ProtClass) => deferred c ∧ c.level < p.topLevel ∧ ∀ d, deferred d → c.level ≤ d.level
  q.deferredSet = [] ∧
  (∃ new : List Context, q.stack = new ++ p.stack.map (fun x =>
      if raised x.cls then { x with hold := x.cls.minHold, clearReady := false } else x) ∧
    new.length ≤ 1 ∧
    ∀ x ∈ new, x = ⟨x.cls, seq, speed, torque, x.cls.minHold, false, if x.cls = .sensorFault then faults else []⟩) ∧
  (∀ c : ProtClass, q.onStack c = true ↔ p.onStack c = true ∨ taken c) ∧
  (∀ c : ProtClass, c ∈ q.pendingSet ↔ ¬ taken c ∧
    (deferred c ∨ (c ∈ p.pendingSet ∧ withdrawn c = false) ∨ (raised c = true ∧ p.onStack c = false)))

end Sys2Proof.Machine

namespace Sys2Proof

/-- Whether a command is the completion of the absorption of a post with this body (the rows STATE to LOCK). -/
def Instr.about : Instr → Machine.Body → Bool
  | .state, .state _ => true
  | .alert, .alert _ _ => true
  | .report, .report _ _ _ => true
  | .demand, .demand _ => true
  | .config, .config _ _ _ => true
  | .query, .query _ _ _ => true
  | .stop, .order .stop _ _ => true
  | .release, .order .release _ _ => true
  | .clearTrip _, .order .clearTrip _ _ => true
  | .acknowledge, .order .acknowledge _ _ => true
  | .restart _, .order .restart _ _ => true
  | .lock _, .order .lock _ _ => true
  | _, _ => false

end Sys2Proof
end

