-- ==== Sys2Proof/Certificates/Slice0/Obligations.lean ====
section
/-! DEFINITION. The statements for the provers. Each says what a rule of spec/ says of a command, of an operation or
of the whole part; the docstring names the rule. A clause that rests on a choice of the model names its log entry. -/

open Sys2Proof Sys2Proof.Machine

/-! ### The whole part -/

/-- A step with a command at the front of its queue is exec of that command on the state with the queue's rest.
On an empty queue one bit-time of 2 µs passes, without effect in RESET: the frame position advances, and so do
the idle time of an idle line and a test post being looped. (That this is what such a step does is the model's
choice, log 2.) -/
def Obligations.StepRunsFrontCommand : Prop :=
  (∀ (c : Instr) (q : List Instr) (s : State), step (s.withPending (c :: q)) = exec c (s.withPending q)) ∧
  (∀ s : State, s.pending = [] →
    let idle := s.bus.lineHeld = false ∧ s.bus.receiving = false ∧ s.driving = none
    (s.station.state = .reset → step s = .next s) ∧
    (s.station.state ≠ .reset → step s = .next { s with
      grid := { s.grid with elapsed := min 7999 (s.grid.elapsed + 1) }
      bus := { s.bus with
        idleTime := if idle then s.bus.idleTime + 1 else s.bus.idleTime
        looking := s.bus.looking || decide (idle ∧ 1 ≤ s.bus.idleTime)
        loopback := s.bus.loopback.map (fun l => if l.looping then l.tick else l) } }))

/-- Every command answers a next state in every state, and leaves the queue alone: nothing in the manual stops
the part. (A command whose event cannot occur in a state leaves that state as it is: the model's choice, log 1.) -/
def Obligations.EveryCommandAnswersNext : Prop :=
  ∀ (c : Instr) (s : State), ∃ t, exec c s = .next t ∧ t.pending = s.pending

/-- The state after reset has every invariant of Sys2Proof/Safety.lean. Values the rules give only for the
release are the model's (log 4). -/
def Obligations.ResetMeetsInvariants : Prop :=
  State.reset.StackInv ∧ State.reset.QueueInv ∧ State.reset.CounterInv ∧ State.reset.OutputInv ∧
  State.reset.LatchInv ∧ State.reset.GeometryInv ∧ State.reset.FaultOrderInv ∧ State.reset.WindingInv ∧
  State.reset.RecordInv ∧ State.reset.PeerInv ∧ State.reset.GridInv ∧ State.reset.QuietInv

/-- R45, R48: once the record is locked, no command but a release of the reset line changes it or unlocks it.
(That COLD_RESET leaves record and lock alone until the release is deduced, log 26.) -/
def Obligations.LockedRecordStays : Prop :=
  ∀ (c : Instr) (s t : State), exec c s = .next t → s.station.locked = true →
    (∀ straps, c ≠ .resetRelease straps) →
    t.station.locked = true ∧ t.station.record = s.station.record

/-- R40, R44: ISOLATED is left only by COLD_RESET, and RESET only by RESET_RELEASE. -/
def Obligations.IsolationAndResetAreLeftOnlySo : Prop :=
  ∀ (c : Instr) (s t : State), exec c s = .next t →
    (s.station.state = .isolated → t.station.state ≠ .isolated → c = .coldReset ∧ t.station.state = .reset) ∧
    (s.station.state = .reset → t.station.state ≠ .reset → ∃ straps, c = .resetRelease straps)

/-- R183: no command but a release of the reset line lowers a counter, none carries it past 65535, and an
isolated station's counters do not change until a cold reset. (That COLD_RESET itself lowers none, the zeros of
cold reset coming with the release, is deduced, log 26.) -/
def Obligations.CountersOnlyGrow : Prop :=
  ∀ (c : Instr) (s t : State) (i : CounterId), exec c s = .next t → s.counters.get i ≤ 65535 →
    (∀ straps, c ≠ .resetRelease straps) →
    s.counters.get i ≤ t.counters.get i ∧ t.counters.get i ≤ 65535 ∧
    (s.station.state = .isolated → t.counters = s.counters)

/-! ### Invariants that every step keeps -/

/-- R156, R157: BASE stays at the bottom, the levels strictly decrease from bottom to top, and the pending and
deferred sets stay apart from the stack and from each other. -/
def Obligations.StepKeepsStack : Prop :=
  ∀ s t : State, s.StackInv → step s = .next t → t.StackInv

/-- R20, R39, R45, R50, R82, R85, R174: torque output and grid power request are non-zero only in RUN, an update
in flight that counts was begun in RUN from the output still driven, the latch is set exactly in TRIPPED, the
record stays in its ranges and is locked outside commissioning, nothing is in flight in RESET and ISOLATED, and
no test post is looped during a line reception. -/
def Obligations.StepKeepsStation : Prop :=
  ∀ s t : State, s.OutputInv ∧ s.RecordInv ∧ s.LatchInv ∧ s.QuietInv → step s = .next t →
    t.OutputInv ∧ t.RecordInv ∧ t.LatchInv ∧ t.QuietInv

/-- R67: the geometry record always agrees with the demand in force, the side and the commissioning record, in
every state in which they can change. -/
def Obligations.StepKeepsGeometry : Prop :=
  ∀ s t : State, s.GeometryInv → step s = .next t → t.GeometryInv

/-- R53: the fault-order list holds exactly the faulted channels, each once. -/
def Obligations.StepKeepsFaultOrder : Prop :=
  ∀ s t : State, s.FaultOrderInv → step s = .next t → t.FaultOrderInv

/-- R22, R30: a presence follows the age, an ABSENT entry has the values of R22, and the own number has no
entry. -/
def Obligations.StepKeepsPeers : Prop :=
  ∀ s t : State, s.PeerInv → step s = .next t → t.PeerInv

/-- R9, R11, R13, R18: the queues, the sequence number and the collision count stay within their bounds. -/
def Obligations.StepKeepsQueues : Prop :=
  ∀ s t : State, s.QueueInv → step s = .next t → t.QueueInv

/-- R121, R135, R136, R141, R146: frame position, duty, latched voltage, offer, stages, spin-up, grid-open
counter and the winding accumulator stay in their ranges, the target stage follows the established one, and the
derate follows the accumulator. The record is in its ranges and locked where it must be (StepKeepsStation). -/
def Obligations.StepKeepsGridAndWinding : Prop :=
  ∀ s t : State, s.GridInv ∧ s.WindingInv ∧ s.RecordInv → step s = .next t → t.GridInv ∧ t.WindingInv

/-! ### The group bus -/

/-- R1 to R8 against R16, R17: a post of n bytes, 10 to 40, occupies the line for 16 + 10 × n bit-times; the
receiver reads the same bytes back from its levels, whole; and the examination gives back the post, field for
field, untagged. Forms that R17 does not name are the model's (log 14), and so is it that a top level above 7 is
a number of right form (log 13). -/
def Obligations.SentPostsAreReadBack : Prop :=
  ∀ p : Post, p.seq < 16 → p.body.Sendable →
    10 ≤ p.wire.length ∧ p.wire.length ≤ 40 ∧ (postLevels p.wire).length = 16 + 10 * p.wire.length ∧
    receiveLevels ((postLevels p.wire).drop 14) = some (.whole p.wire, []) ∧ examine (.whole p.wire) = .good p

/-- R3: a difference confined to one byte always changes the check code. -/
def Obligations.OneByteDifferenceShows : Prop :=
  ∀ (bytes : List Byte) (i : Nat) (b : Byte), i < bytes.length → bytes[i]? ≠ some b →
    crc (bytes.set i b) ≠ crc bytes

/-- R1, R16, R17, R18, R20: the receiver reads bytes back to back until a mark bit read idle (truncated), a
space bit read active (framing violated) or the end of the last check byte. The arrival ends the reception, lets
a looped test post begin again, and the post joins the receive queue as examined, a good one counted; a full
queue keeps its entries and the overrun is counted. The tag is FORM for a reception that ended early, CHECK for
a wrong check code, FORM for a form on the list of R17. The guard on an own attempt, the idle time after the
post, and when the receiver then looks for the next start symbol are the model's (logs 22, 33, 34); forms R17
does not name are those of log 14, and a top level above 7 is a number of right form (log 13). -/
def Obligations.ArrivalJoinsTheQueue : Prop :=
  (∀ (levels : List Bool) (r : Reception) (s : State), s.station.state.live = true → s.driving = none →
    s.bus.receiving = true → receiveLevels levels = some (r, []) →
    let b : BusPort := { s.bus with
      receiving := false
      idleTime := idleTail levels
      looking := r.isWhole || decide (2 ≤ idleTail levels)
      loopback := s.bus.loopback.map (fun l => { l with looping := true }) }
    (s.bus.rx.length < 8 → exec (.postArrival levels) s = .next { s with
      bus := { b with rx := s.bus.rx ++ [examine r] }
      counters := if (examine r).tagged then s.counters else s.counters.bump .receivedGood }) ∧
    (8 ≤ s.bus.rx.length → exec (.postArrival levels) s = .next { s with
      bus := b
      counters := s.counters.bump .overruns })) ∧
  (∀ (got rest) (b : Byte),
    let bits := [b.getLsbD 7, b.getLsbD 6, b.getLsbD 5, b.getLsbD 4, b.getLsbD 3, b.getLsbD 2, b.getLsbD 1,
      b.getLsbD 0]
    let read := got ++ [b]
    readBytes got (false :: rest) = some (.truncated got, rest) ∧
    readBytes got (true :: bits ++ true :: rest) = some (.framing read, rest) ∧
    readBytes got (true :: bits ++ false :: rest) =
      (if postLength read = some read.length then some (.whole read, rest) else readBytes read rest)) ∧
  (∀ l, examine (.truncated l) = .form l ∧ examine (.framing l) = .form l) ∧
  (∀ l c, c.length = 2 →
    (crcBytes l ≠ c → examine (.whole (l ++ c)) = .check (l ++ c)) ∧
    (crcBytes l = c → parsePost l = none → examine (.whole (l ++ c)) = .form (l ++ c)) ∧
    (∀ p, crcBytes l = c → parsePost l = some p → examine (.whole (l ++ c)) = .good p)) ∧
  (∀ (kind source seqLen presence : Byte) (body : List Byte),
    parsePost (kind :: source :: seqLen :: presence :: body) ≠ none ↔
      FormRight kind.toNat source.toNat presence.toNat (body.map BitVec.toNat))

/-- R19: a line-held episode sets the marker, counts and queues one LINE_HELD entry (or an overrun); its end
clears the marker and restarts the idle time. The idle time set to 0 at the episode is the model's choice (log
19). -/
def Obligations.LineHeldEpisodes : Prop :=
  ∀ s : State, s.station.state.live = true →
    (s.bus.lineHeld = false → s.bus.rx.length < 8 → exec .lineHeldEpisode s = .next { s with
      bus := { s.bus with lineHeld := true, idleTime := 0, rx := s.bus.rx ++ [.lineHeld] }
      counters := s.counters.bump .lineHeldEpisodes }) ∧
    (s.bus.lineHeld = false → 8 ≤ s.bus.rx.length → exec .lineHeldEpisode s = .next { s with
      bus := { s.bus with lineHeld := true, idleTime := 0 }
      counters := (s.counters.bump .lineHeldEpisodes).bump .overruns }) ∧
    (s.bus.lineHeld = true → exec .lineHeldEnd s = .next { s with
      bus := { s.bus with lineHeld := false, idleTime := 0 } })

/-- R1, R16, R20: an active run of 12 to 48 bit-times begins a reception and abandons a test post being looped,
if the receiver looks for a start symbol, which after a reception that ended early takes 2 idle bit-times; a
shorter run begins none. Either way the idle time starts again from 0. That idle bit-times before the arrival
count among the 2 is deduced (log 33), and the bit-times waited are an operand (log 19). -/
def Obligations.StartSymbolBeginsReception : Prop :=
  ∀ (run : ActiveRun) (s : State), s.station.state.live = true → s.bus.receiving = false →
    s.bus.lineHeld = false →
    let looks := s.bus.looking = true ∨ (s.driving = none ∧ 2 ≤ s.bus.idleTime + run.waited)
    (12 ≤ run.length → run.length ≤ 48 → looks → exec (.startSymbol run) s = .next { s with
      bus := { s.bus with
        idleTime := 0
        looking := true
        receiving := true
        loopback := s.bus.loopback.map (fun l => { l with sent := 0, looping := false }) } }) ∧
    (run.length < 12 ∨ ¬ looks → exec (.startSymbol run) s = .next { s with
      bus := { s.bus with idleTime := 0, looking := decide looks } })

/-- R9 to R12, R15: with the line idle for the post's gap, the oldest urgent post, else the STATE post, else the
REPORT post moves into the empty transmit register under the sequence number, and a post waiting for a retry is
sent again under its own number; below the gap nothing begins. The bit-times waited are the command's operand,
the idle time is 0 once the attempt drives the line, and no attempt begins during a reception (logs 18, 19). -/
def Obligations.AttemptBeginsAtTheGap : Prop :=
  ∀ (waited : Nat) (s : State) (b : Body), s.station.state.posts = true → s.bus.lineHeld = false →
    s.bus.receiving = false → s.driving = none →
    let n := s.station.number
    let idle := s.bus.idleTime + waited
    let sent := fun (seq : Nat) => (some ⟨b, seq, some (wire n seq b), false⟩ : Option TxRegister)
    let g := (match b.kind with
      | .alert | .order => 12
      | .state | .demand => 24
      | .config | .query | .report => 36) + 2 * n
    (∀ rest, s.bus.tx = none → s.bus.urgent = b :: rest → g ≤ idle →
      exec (.postTransmission waited) s = .next { s with
        bus := { s.bus with urgent := rest, tx := sent s.bus.seq, idleTime := 0, looking := true } }) ∧
    (s.bus.tx = none → s.bus.urgent = [] → s.bus.stateSlot = some b → g ≤ idle →
      exec (.postTransmission waited) s = .next { s with
        bus := { s.bus with stateSlot := none, tx := sent s.bus.seq, idleTime := 0, looking := true } }) ∧
    (s.bus.tx = none → s.bus.urgent = [] → s.bus.stateSlot = none → s.bus.reportSlot = some b → g ≤ idle →
      exec (.postTransmission waited) s = .next { s with
        bus := { s.bus with reportSlot := none, tx := sent s.bus.seq, idleTime := 0, looking := true } }) ∧
    (∀ seq last, s.bus.tx = some ⟨b, seq, none, last⟩ → g ≤ idle →
      exec (.postTransmission waited) s = .next { s with
        bus := { s.bus with tx := sent seq, idleTime := 0, looking := true } }) ∧
    (idle < g → (s.bus.tx = none → s.bus.candidate = some b) → (∀ x, s.bus.tx = some x → x.body = b) →
      exec (.postTransmission waited) s = .next { s with
        bus := { s.bus with idleTime := idle, looking := s.bus.looking || decide (2 ≤ idle) } })

/-- R1, R9, R11: a completed transmission empties the register, counts posts sent, resets the collision count
and advances the sequence number; the idle time is that of the levels sent. That the own post does not arrive,
and that its last idle bit-times count, are the model's readings (logs 22, 34). -/
def Obligations.TransmissionCompletes : Prop :=
  ∀ (s : State) (bytes : List Byte), s.station.state.live = true → s.driving = some bytes →
    exec .transmissionCompletion s = .next { s with
      bus := { s.bus with
        tx := none
        consecutive := 0
        seq := (s.bus.seq + 1) % 16
        idleTime := idleTail (postLevels bytes)
        looking := true
        receiving := false
        loopback := s.bus.loopback.map (fun l => { l with looping := true }) }
      counters := s.counters.bump .postsSent }

/-- R1, R11, R15: the line is active when any station drives it active, and every attempt has bit-times at which
it drives idle, the first of them bit-time 14; reading active at one is a collision, which is counted; below the
16th in a row the post waits for a retry, at the 16th it is dropped and counted, and an attempt that a warm
restart made the last is not retried. The active level read sets the idle time to 0. -/
def Obligations.CollisionOutcomes : Prop :=
  (∀ drives : List Bool, lineLevel drives = true ↔ true ∈ drives) ∧
  ∀ (s : State) (b : Body) (seq : Nat) (bytes : List Byte) (last : Bool), s.station.state.live = true →
    s.bus.tx = some ⟨b, seq, some bytes, last⟩ →
    (postLevels bytes)[14]? = some false ∧ (∀ k < 14, (postLevels bytes)[k]? = some true) ∧
    (last = false → s.bus.consecutive + 1 < 16 → exec .collision s = .next { s with
      bus := { s.bus with
        tx := some ⟨b, seq, none, false⟩, consecutive := s.bus.consecutive + 1, idleTime := 0 }
      counters := s.counters.bump .collisions }) ∧
    (last = false → 16 ≤ s.bus.consecutive + 1 → exec .collision s = .next { s with
      bus := { s.bus with tx := none, consecutive := 0, idleTime := 0 }
      counters := (s.counters.bump .collisions).bump .dropped }) ∧
    (last = true → exec .collision s = .next { s with
      bus := { s.bus with tx := none, consecutive := 0, idleTime := 0 }
      counters := s.counters.bump .collisions })

/-! ### The peer view -/

/-- R24: an idle absorber takes the oldest entry of the receive queue. -/
def Obligations.AbsorptionTakesTheOldest : Prop :=
  ∀ (s : State) (e : RxEntry) (rest : List RxEntry), s.station.state.live = true → s.peers.absorber = none →
    s.bus.rx = e :: rest →
    exec .absorption s = .next { s with
      bus := { s.bus with rx := rest }
      peers := { s.peers with absorber := some e } }

/-- R25, R26, R35 to R37: a LINE_HELD marker is discarded uncounted, a tagged post and a duplicate are discarded
and counted, and a post under the own number is counted and not routed: in LISTEN it isolates the station, later
it sets the own-number-heard marker. No peer entry changes. -/
def Obligations.EntriesNotAccepted : Prop :=
  ∀ s : State, s.station.state.live = true →
    (s.peers.absorber = some .lineHeld → exec .lineHeldEntry s = .next { s with
      peers := { s.peers with absorber := none } }) ∧
    (∀ l, s.peers.absorber = some (.check l) → exec .taggedPost s = .next { s with
      peers := { s.peers with absorber := none }
      counters := s.counters.bump .checkTags }) ∧
    (∀ l, s.peers.absorber = some (.form l) → exec .taggedPost s = .next { s with
      peers := { s.peers with absorber := none }
      counters := s.counters.bump .formTags }) ∧
    (∀ (c : Instr) (p : Post), c.about p.body = true → s.peers.absorber = some (.good p) →
      (p.source.num ≠ s.station.number →
        (s.peers.entries.get p.source).presence ≠ .absent →
        (s.peers.entries.get p.source).lastSeq = some p.seq →
        (s.peers.entries.get p.source).lastKind = some p.body.kind →
        exec c s = .next { s with
          peers := { s.peers with absorber := none }
          counters := s.counters.bump .duplicates }) ∧
      (p.source.num = s.station.number → s.station.state ≠ .listen → exec c s = .next { s with
        peers := { s.peers with absorber := none, ownHeard := true }
        counters := s.counters.bump .duplicateOwnNumber }) ∧
      (p.source.num = s.station.number → s.station.state = .listen → ∃ t, exec c s = .next t ∧
        t.station = { s.station with state := .isolated, isolation := some .duplicate } ∧
        t.counters = s.counters.bump .duplicateOwnNumber ∧
        t.peers.entries = s.peers.entries ∧ t.peers.absorber = none ∧
        t.bus.urgent = [] ∧ t.bus.stateSlot = none ∧ t.bus.reportSlot = none ∧ t.bus.rx = [] ∧
        t.bus.tx = none ∧ t.bus.loopback = none ∧ t.gov.output = 0 ∧ t.gov.request = 0 ∧
        t.meas.converting = none ∧ t.prot = s.prot ∧ t.grid = s.grid ∧ t.load = s.load))

/-- R23, R26, R27: an accepted post makes its sender's entry FRESH with age 0, records its kind and sequence
number, adds the sequence gap to the missed count, and stores a DEMAND of the host or a STATE of a wheel station
with each numeric field within its range, and the kind of an ALERT; no other entry changes. (A RESTART of the
host for this station in READY, HELD or TRIPPED at a standstill is taken and then empties every entry, R38: it
alone is left out.) The clamp of a received top level to 7 is the model's choice (log 13). -/
def Obligations.AcceptedPostRefreshesItsEntry : Prop :=
  ∀ (c : Instr) (p : Post) (s : State), c.about p.body = true → s.Accepting p →
    (∀ k, c = .restart k → p.source ≠ .s0 ∨
      (∀ n ∈ p.body.target, n ≠ s.station.number ∧ n ≠ targetAll) ∨
      (s.station.state ≠ .ready ∧ s.station.state ≠ .held ∧ s.station.state ≠ .tripped) ∨ 30 < s.gov.uRef.natAbs) →
    ∃ t, exec c s = .next t ∧ t.peers.absorber = none ∧
      t.peers.ownHeard = s.peers.ownHeard ∧ t.peers.ageClock = s.peers.ageClock ∧
      (∀ i, i ≠ p.source → t.peers.entries.get i = s.peers.entries.get i) ∧
      let e := s.peers.entries.get p.source
      let e' := t.peers.entries.get p.source
      e'.presence = .fresh ∧ e'.age = 0 ∧ e'.lastKind = some p.body.kind ∧ e'.lastSeq = some p.seq ∧
      (∀ l : Nat, e.lastSeq = some l → l < 16 → p.seq < 16 →
        (e'.missed : Int) = min 65535 (e.missed + ((p.seq : Int) - l - 1) % 16)) ∧
      (e.lastSeq = none → e.missed ≤ 65535 → e'.missed = e.missed) ∧
      (∀ k a, p.body = .alert k a → e'.lastAlert = some k) ∧
      ((∀ k a, p.body ≠ .alert k a) → e'.lastAlert = e.lastAlert) ∧
      (∀ r, p.body = .demand r → p.source = .s0 → e'.contents = .demand { r with
        propel := min 1000 r.propel
        retard := min 1000 r.retard
        steer := max (-450) (min 450 r.steer)
        ceiling := min 3000 r.ceiling
        payload := r.payload.map (fun v => min 600 v)
        frontRef := r.frontRef.map (fun v => max (-3000) (min 3000 v)) }) ∧
      (∀ r, p.body = .state r → p.source ≠ .s0 → e'.contents = .state { r with
        topLevel := min 7 r.topLevel
        wheelSpeed := r.wheelSpeed.map (fun v => max (-3000) (min 3000 v))
        centreSpeed := r.centreSpeed.map (fun v => max (-3000) (min 3000 v))
        torque := max (-4000) (min 4000 r.torque)
        offer := min 4000 r.offer
        gridTemp := max (-50) (min 1200 r.gridTemp) }) ∧
      ((∀ r, p.body = .demand r → p.source ≠ .s0) → (∀ r, p.body = .state r → p.source = .s0) →
        e'.contents = e.contents)

/-- R28, R29, R31, R67: a STATE, ALERT or REPORT, a DEMAND, CONFIG or QUERY of another station than the host, a
CONFIG or QUERY for another station and an order for another station go no further than the sender's entry.
Besides the entry, only the geometry record follows a post of the host, and the report of R31 is made. (The
order of its two raises is a free value, log 9.) -/
def Obligations.PostsThatGoNoFurther : Prop :=
  ∀ (c : Instr) (p : Post) (s : State), c.about p.body = true → s.Accepting p →
    p.GoesNoFurther s →
    ∃ t, exec c s = .next t ∧ t.geo = (if p.source = .s0 then t.geometry else s.geo) ∧
      State.ReportFollows { s with peers := t.peers } t

/-- R32, R33: the demand in force by the presence of entry 0, and the values that stand for a missing DEMAND
record; the driven peers are the wheel stations whose entry is FRESH or AGED with a stored state of RUN or HELD,
and with the own station in RUN or HELD they make the usable driven count. -/
def Obligations.DemandInForceFollowsPresence : Prop :=
  (∀ (e : PeerEntry) (orphan : Nat),
    let r := match e.contents with
      | .demand r => r
      | _ => ⟨.neutral, false, 0, 0, 0, 0, none, none⟩
    (e.presence = .fresh → demandInForce e orphan = ⟨r, .posted, true⟩) ∧
    (e.presence = .aged → demandInForce e orphan = ⟨r, .held, true⟩) ∧
    (e.presence = .lost ∨ e.presence = .absent → demandInForce e orphan =
      ⟨{ r with propel := 0, ceiling := min r.ceiling orphan, payload := none, frontRef := none },
        .fallback, false⟩)) ∧
  (∀ (e : PeerEntry) (r : StateRecord), e.drivenRecord = some r ↔
    (e.presence = .fresh ∨ e.presence = .aged) ∧ e.contents = .state r ∧
    (r.stationState = .run ∨ r.stationState = .held)) ∧
  (∀ s : State, let p := s.peers.entries
    p.driven = [p.e1, p.e2, p.e3, p.e4].filterMap PeerEntry.drivenRecord ∧
    s.usableCount = p.driven.length + (if s.station.state = .run ∨ s.station.state = .held then 1 else 0))

/-! ### Posts that act: DEMAND, CONFIG, QUERY -/

/-- R29, R49, R50, R84, R105, R159, R172: an accepted DEMAND of the host sets the hold-request marker; in READY
with a direction it moves the station to RUN with the opening marker set and the grace count 3, and in HELD
without hold request it returns it to RUN with ALERT HOLD_LEFT; in every other case the state stays. (That the
capacity offer is kept at an entry to RUN is the model's choice, log 32.) -/
def Obligations.DemandStartsAndResumes : Prop :=
  ∀ (s : State) (p : Post) (r : DemandRecord), s.AcceptingHost p (.demand r) →
    (s.station.state = .ready → r.direction ≠ .neutral →
      ∃ t, exec .demand s = .next t ∧ t.geo = t.geometry ∧ State.ReportFollows { s with
        peers := t.peers
        station := { s.station with state := .run }
        gov := { s.gov with holdMarker := r.hold, opening := true }
        prot := { s.prot with grace := 3 } } t) ∧
    (s.station.state = .held → r.hold = false →
      ∃ t, exec .demand s = .next t ∧ t.geo = t.geometry ∧ State.ReportFollows (State.alert { s with
        peers := t.peers
        station := { s.station with state := .run }
        gov := { s.gov with holdMarker := false, opening := true } } .holdLeft []) t) ∧
    (¬ (s.station.state = .ready ∧ r.direction ≠ .neutral) → ¬ (s.station.state = .held ∧ r.hold = false) →
      ∃ t, exec .demand s = .next t ∧ t.geo = t.geometry ∧ State.ReportFollows { s with
        peers := t.peers
        gov := { s.gov with holdMarker := r.hold } } t)

/-- R29, R46: an item for this station is stored within its range while the record is unlocked, a value beyond a
bound as the bound and counted; an item number that names none is counted, and after the lock every item is
counted and discarded. Storing an item changes no other item. -/
def Obligations.ConfigItemsAreStored : Prop :=
  (∀ (s : State) (p : Post) (item value : Nat), s.AcceptingHost p (.config s.station.number item value) →
    (s.station.locked = true → ∃ t, exec .config s = .next t ∧ t.geo = t.geometry ∧ State.ReportFollows { s with
      peers := t.peers
      counters := s.counters.bump .configAfterLock } t) ∧
    (s.station.locked = false → item = 0 ∨ 20 < item →
      ∃ t, exec .config s = .next t ∧ t.geo = t.geometry ∧ State.ReportFollows { s with
        peers := t.peers
        counters := s.counters.bump .configClamps } t) ∧
    (∀ lo hi : Nat, s.station.locked = false → itemRange item = some (lo, hi) →
      (lo ≤ value → value ≤ hi →
        ∃ t, exec .config s = .next t ∧ t.geo = t.geometry ∧ State.ReportFollows { s with
          peers := t.peers
          station := { s.station with record := s.station.record.setItem value item } } t) ∧
      (value < lo → ∃ t, exec .config s = .next t ∧ t.geo = t.geometry ∧ State.ReportFollows { s with
        peers := t.peers
        station := { s.station with record := s.station.record.setItem lo item }
        counters := s.counters.bump .configClamps } t) ∧
      (hi < value → ∃ t, exec .config s = .next t ∧ t.geo = t.geometry ∧ State.ReportFollows { s with
        peers := t.peers
        station := { s.station with record := s.station.record.setItem hi item }
        counters := s.counters.bump .configClamps } t))) ∧
  (∀ (r : CommRecord) (n m v : Nat), 1 ≤ n → n ≤ 20 →
    (r.setItem v n).item m = if m = n then some v else r.item m)

/-- R29, R178, R179: a QUERY for this station puts one REPORT with the query's page and index and the record
they name into the REPORT slot, replacing what is there. -/
def Obligations.QueryIsAnswered : Prop :=
  ∀ (s : State) (p : Post) (page : Page) (index : Nat), s.AcceptingHost p (.query s.station.number page index) →
    ∃ t, exec .query s = .next t ∧ t.geo = t.geometry ∧ State.ReportFollows { s with
      peers := t.peers
      bus := { s.bus with
        reportSlot := some (.report page index (State.pageRecord { s with peers := t.peers } page index)) } } t

/-- R8, R178, R180 to R182, R184 to R187: the pages have 21, 19, one more than the stack, 4, 7 and 1 records, an
index beyond them is EMPTY, and every record fits a REPORT. Each record is laid out field by field as its rule
lists it. -/
def Obligations.ReportRecordsFit : Prop :=
  ∀ (s : State) (index : Nat), 1 ≤ s.station.number → s.station.number ≤ 4 → s.LatchInv → s.StackInv →
    (∀ x ∈ s.prot.stack, x.channels.length ≤ 7) →
    let opt := fun (x : Option Nat) => (match x with
      | none => [0, 0]
      | some v => [1, byte v] : List Byte)
    let optWide := fun (x : Option Int) => (match x with
      | none => [0, 0, 0]
      | some v => 1 :: signed16 v : List Byte)
    let many := fun (l : List Nat) => byte l.length :: l.map byte
    (∀ page, (s.pageRecord page index).length ≤ 31) ∧
    (s.pageRecord .identity index = [] ↔ 21 ≤ index) ∧ (s.pageRecord .counters index = [] ↔ 19 ≤ index) ∧
    (s.pageRecord .stack index = [] ↔ s.prot.stack.length < index) ∧
    (s.pageRecord .peers index = [] ↔ 4 ≤ index) ∧ (s.pageRecord .channels index = [] ↔ 7 ≤ index) ∧
    (s.pageRecord .grid index = [] ↔ 1 ≤ index) ∧
    s.pageRecord .identity 0 = [23, 1, 164, 2, byte s.station.number,
      (if s.station.number % 2 = 1 then 1 else 2), byte s.station.state.code, byte (yesNo s.station.locked),
      byte (yesNo s.station.selfCheckPassed), byte (yesNo (s.bus.rx.any RxEntry.tagged)),
      byte (yesNo s.bus.lineHeld)] ∧
    (∀ v, s.station.record.item index = some v →
      s.pageRecord .identity index = byte index :: bytes16 v) ∧
    (∀ c, CounterId.ofIndex index = some c → s.pageRecord .counters index = bytes16 (s.counters.get c)) ∧
    (∀ x, s.prot.stack[index]? = some x → s.pageRecord .stack index =
      [byte x.cls.level, byte x.cls.level, byte x.entrySeq] ++ signed16 x.entrySpeed ++ signed16 x.entryTorque
        ++ bytes16 x.hold ++ [byte (yesNo x.clearReady)] ++ many (x.channels.map Channel.code)) ∧
    s.pageRecord .stack s.prot.stack.length =
      many (s.prot.pendingSet.map ProtClass.level) ++ many (s.prot.deferredSet.map ProtClass.level)
        ++ opt (s.prot.firstCause.map TripCause.code) ++ many (s.prot.causes.map TripCause.code)
        ++ [byte (yesNo s.prot.stopLine)] ∧
    (∀ i, ([StationId.s0, .s1, .s2, .s3, .s4].filter (fun x => x.num != s.station.number))[index]? = some i →
      let e := s.peers.entries.get i
      s.pageRecord .peers index = [byte i.num, byte e.presence.code, byte e.age] ++ opt (e.lastKind.map PostKind.code)
        ++ opt e.lastSeq ++ bytes16 e.missed ++ opt (e.lastAlert.map AlertKind.code)
        ++ (match e.contents with
          | .none => [0]
          | .demand r => [1, byte r.direction.code, byte (yesNo r.hold)] ++ bytes16 r.propel ++ bytes16 r.retard
              ++ signed16 r.steer ++ bytes16 r.ceiling ++ optWide (r.payload.map Int.ofNat) ++ optWide r.frontRef
          | .state r => [1, byte r.stationState.code, byte r.mode.code, byte r.topLevel, byte r.slip.code]
              ++ optWide r.wheelSpeed ++ optWide r.centreSpeed ++ signed16 r.torque ++ bytes16 r.offer
              ++ signed16 r.gridTemp ++ [byte (yesNo r.brake)] ++ opt (r.tripCause.map TripCause.code))) ∧
    (∀ c, [Channel.wheelSpeed, .torqueFb, .linkVoltage, .windingTemp, .gridElementTemp, .gridAirTemp,
        .gridCurrent][index]? = some c →
      let r := s.meas.channels.get c
      s.pageRecord .channels index = byte (index + 1) :: signed16 r.value ++ optWide r.lastGood
        ++ [(match r.status with
            | none => 0
            | some .good => 1
            | some .bad => 2), byte r.badRun, byte r.goodRun, byte (yesNo r.faulted),
          byte (if c ∈ s.meas.faultOrder then s.meas.faultOrder.idxOf c + 1 else 0)]) ∧
    s.pageRecord .grid 0 = optWide (s.grid.theta.map (fun x => x.tdiv 65536)) ++ optWide s.grid.gridTemp
      ++ signed16 s.meas.channels.gridElementTemp.value ++ bytes16 s.grid.offer
      ++ [byte s.grid.established, byte s.grid.target, byte (s.grid.spinUp.getD 0), byte (yesNo s.grid.blowerFault)]
      ++ bytes16 s.grid.duty ++ bytes16 s.grid.latchedVoltage
      ++ [byte (s.grid.elapsed / 125 + 1), byte (s.grid.elapsed % 125 * 64 / 125 + 1), byte s.grid.openCounter]

/-! ### Orders -/

/-- R28, R31: an order for this station that only the host may give is refused and counted when another station
sends it, whatever the station's state. -/
def Obligations.OrdersOfOthersAreRefused : Prop :=
  ∀ (c : Instr) (s : State) (p : Post) (k : OrderKind) (a : Nat), c.about p.body = true → s.Accepting p →
    p.OrderFor s k a → k ≠ .stop → p.source ≠ .s0 →
    ∃ t, exec c s = .next t ∧ t.geo = s.geo ∧ State.ReportFollows { s with
      peers := t.peers
      counters := s.counters.bump .refusedOrders } t

/-- R28, R156, R161, R167, R168: a STOP of any source is pushed as the top context, with STOP_TAKEN and a count,
and asserts the brake request; during an update in RUN it is deferred; a second STOP is counted and changes
nothing. That outside RUN it is taken at once also with a (discarded) update in flight is deduced (log 29). -/
def Obligations.StopOrders : Prop :=
  ∀ (s : State) (p : Post) (a : Nat), s.Accepting p → p.OrderFor s .stop a → s.StackInv →
    (s.prot.onStack .stop = false → .stop ∉ s.prot.deferredSet →
      s.station.state ≠ .run ∨ s.gov.update = none →
      ∃ t, exec .stop s = .next t ∧ t.geo = (if p.source = .s0 then t.geometry else s.geo) ∧
        t.prot.onStack .stop = true ∧ t.brakeRequest = true ∧
        State.ReportFollows ((State.alert { s with
          peers := t.peers
          prot := { s.prot with
            stack := ⟨.stop, s.bus.seq, s.gov.uRef, s.gov.output, 0, false, []⟩ :: s.prot.stack } }
          .stopTaken []).bump .stopTakes) t) ∧
    (s.prot.onStack .stop = false → .stop ∉ s.prot.deferredSet → s.station.state = .run →
      s.gov.update ≠ none →
      ∃ t, exec .stop s = .next t ∧ t.geo = (if p.source = .s0 then t.geometry else s.geo) ∧
        State.ReportFollows { s with
          peers := t.peers
          prot := { s.prot with deferredSet := .stop :: s.prot.deferredSet } } t) ∧
    (s.prot.onStack .stop = true ∨ .stop ∈ s.prot.deferredSet →
      ∃ t, exec .stop s = .next t ∧ t.geo = (if p.source = .s0 then t.geometry else s.geo) ∧
        State.ReportFollows { s with
          peers := t.peers
          counters := s.counters.bump .stopTakes } t)

/-- R28, R165, R170: a RELEASE is taken with STOP on the stack, the truck standing and the stop line inactive:
the STOP context is made clear-ready and popped. It is refused and counted otherwise. -/
def Obligations.ReleaseOrders : Prop :=
  ∀ (s : State) (p : Post) (a : Nat), s.Accepting p → p.source = .s0 → p.OrderFor s .release a → s.StackInv →
    (∀ (x : Context) (rest : List Context), s.prot.stack = x :: rest → x.cls = .stop →
      s.gov.uRef.natAbs ≤ 30 → s.prot.stopLine = false →
      ∃ t, exec .release s = .next t ∧ t.geo = t.geometry ∧ t.prot.onStack .stop = false ∧
        State.ReportFollows (State.pop { s with
          peers := t.peers
          prot := { s.prot with stack := { x with clearReady := true } :: rest } }) t) ∧
    (s.prot.onStack .stop = false ∨ 30 < s.gov.uRef.natAbs ∨ s.prot.stopLine = true →
      ∃ t, exec .release s = .next t ∧ t.geo = t.geometry ∧ State.ReportFollows { s with
        peers := t.peers
        counters := s.counters.bump .refusedOrders } t)

/-- R28, R63, R164, R165: an ACKNOWLEDGE of class 6 with the hold of SENSOR_FAULT run out and every channel of
its list good 32 times makes the context clear-ready; on top it is popped, and its channels return to service
with their last good values. It is refused and counted otherwise. -/
def Obligations.AcknowledgeOrders : Prop :=
  ∀ (s : State) (p : Post) (a : Nat), s.Accepting p → p.source = .s0 → p.OrderFor s .acknowledge a →
    s.StackInv → s.FaultOrderInv →
    (∀ (x : Context), x ∈ s.prot.stack → x.cls = .sensorFault → a = 6 → x.hold = 0 →
      (∀ c ∈ x.channels, 32 ≤ (s.meas.channels.get c).goodRun) →
      (s.prot.top = .sensorFault →
        ∃ t, exec .acknowledge s = .next t ∧ t.geo = t.geometry ∧
          (∀ k, t.meas.channels.get k =
            if k ∈ x.channels then
              { s.meas.channels.get k with
                faulted := false
                value := ((s.meas.channels.get k).lastGood).getD (s.meas.channels.get k).value }
            else s.meas.channels.get k) ∧
          (∀ k, k ∈ t.meas.faultOrder ↔ k ∈ s.meas.faultOrder ∧ k ∉ x.channels) ∧
          t.meas.converting = s.meas.converting ∧
          State.ReportFollows (State.alert { s with
            peers := t.peers
            meas := t.meas
            prot := { s.prot with stack := [Context.base] } } .contextCleared [6]) t) ∧
      (s.prot.top ≠ .sensorFault → s.prot.stack.head?.map Context.clearReady = some false →
        ∃ t, exec .acknowledge s = .next t ∧ t.geo = t.geometry ∧ State.ReportFollows { s with
          peers := t.peers
          prot := { s.prot with
            stack := s.prot.stack.map
              (fun y => if y.cls = .sensorFault then { y with clearReady := true } else y) } } t)) ∧
    (a ≠ 6 ∨ s.prot.onStack .sensorFault = false ∨ (∃ x ∈ s.prot.stack, x.cls = .sensorFault ∧
        (0 < x.hold ∨ ∃ c ∈ x.channels, (s.meas.channels.get c).goodRun < 32)) →
      ∃ t, exec .acknowledge s = .next t ∧ t.geo = t.geometry ∧ State.ReportFollows { s with
        peers := t.peers
        counters := s.counters.bump .refusedOrders } t)

/-- R28, R173, R176: a CLEAR_TRIP in TRIPPED, standing, with every cause of the set gone clears the latch and
the set and moves the station to READY, where a fault line still asserted trips it again. It is refused and
counted otherwise. (The command carries the line's level, log 5.) -/
def Obligations.ClearTripOrders : Prop :=
  ∀ (line : Bool) (s : State) (p : Post) (a : Nat), s.Accepting p → p.source = .s0 → p.OrderFor s .clearTrip a →
    (s.station.state = .tripped → s.gov.uRef.natAbs ≤ 30 → (.overcurrent ∈ s.prot.causes → line = false) →
      (.linkHard ∈ s.prot.causes → s.meas.channels.linkVoltage.value < 2000) →
      (line = false → ∃ t, exec (.clearTrip line) s = .next t ∧ t.geo = t.geometry ∧ State.ReportFollows { s with
        peers := t.peers
        pins := { s.pins with faultLine := false }
        station := { s.station with state := .ready }
        prot := { s.prot with firstCause := none, causes := [] } } t) ∧
      (line = true → ∃ t, exec (.clearTrip line) s = .next t ∧ t.geo = t.geometry ∧
        State.ReportFollows (State.alert { s with
          peers := t.peers
          pins := { s.pins with faultLine := true }
          gov := { s.gov with
            mode := .coast
            update := s.gov.update.map (fun u => { u with discarded := true }) }
          prot := { s.prot with firstCause := some .overcurrent, causes := [.overcurrent], heldReason := false }
          counters := s.counters.bump .overcurrentTrips } .trip [1]) t)) ∧
    (s.station.state ≠ .tripped ∨ 30 < s.gov.uRef.natAbs ∨ (.overcurrent ∈ s.prot.causes ∧ line = true) ∨
        (.linkHard ∈ s.prot.causes ∧ 2000 ≤ s.meas.channels.linkVoltage.value) →
      ∃ t, exec (.clearTrip line) s = .next t ∧ t.geo = t.geometry ∧ State.ReportFollows { s with
        peers := t.peers
        pins := { s.pins with faultLine := line }
        counters := s.counters.bump .refusedOrders } t)

/-- R15, R38, R41, R51, R52, R64, R66, R80, R121, R141, R169, R177: a RESTART in READY, HELD or TRIPPED,
standing, is a warm restart: LISTEN with every block at its warm-restart value, a SENSOR_FAULT context while
channels are faulted and a STOP context while the stop line is asserted. Straps that differ isolate the station;
elsewhere it is refused. A superframe in flight is not counted, the raises are taken at once, an isolating
restart counts and offers nothing, a faulted WHEEL_SPEED keeps its value, all deduced (logs 16, 20, 21, 30); the
straps are recorded from the command (log 5). -/
def Obligations.RestartOrders : Prop :=
  ∀ (straps : Fin 8) (s : State) (p : Post) (a : Nat), s.Accepting p → p.source = .s0 → p.OrderFor s .restart a →
    let stopped := s.prot.stopLine = true
    let faults := s.meas.faultOrder
    let at0 := fun (c : ProtClass) (hold : Nat) (l : List Channel) => (⟨c, s.bus.seq, 0, 0, hold, false, l⟩ : Context)
    (s.station.state = .ready ∨ s.station.state = .held ∨ s.station.state = .tripped → s.gov.uRef.natAbs ≤ 30 →
      (straps.val = s.station.number → ∃ t, exec (.restart straps) s = .next t ∧
        t.pins = { s.pins with straps := straps } ∧
        t.station = { s.station with state := .listen, listenCounter := 0, selfCheckPassed := false } ∧
        t.bus = { s.bus with
          tx := (match s.bus.tx with
            | some ⟨b, seq, some bytes, _⟩ => some ⟨b, seq, some bytes, true⟩
            | _ => none)
          urgent :=
            (if faults = [] then [] else [.alert .contextTaken (6 :: faults.map Channel.code)])
              ++ (if stopped then [.alert .stopTaken []] else [])
          stateSlot := none
          reportSlot := none
          consecutive := 0
          rx := []
          loopback := some ⟨testPostA s.station.number, testPostB s.station.number, none, 0, !s.bus.receiving⟩ } ∧
        t.counters = (if stopped then s.counters.bump .stopTakes else s.counters) ∧
        t.peers = ⟨.absent, none, false, s.station.record.postPeriod⟩ ∧ t.meas = s.meas ∧
        t.geo = ⟨0, 0, 4096, .straight, none, false, 0⟩ ∧
        t.gov = { Governor.cold with period := s.gov.period, update := s.gov.update } ∧
        t.grid = { s.grid with offer := 0, openCounter := 0, counted := false } ∧
        t.load = { s.load with percentage := none, payloadClass := .unknown, standing := .fallback } ∧
        t.prot = { Protection.cold with
          stopLine := s.prot.stopLine
          stack := (if stopped then [at0 .stop 0 []] else [])
            ++ (if faults = [] then [] else [at0 .sensorFault 400 faults]) ++ [Context.base] } ∧
        t.pending = s.pending) ∧
      (straps.val ≠ s.station.number → ∃ t, exec (.restart straps) s = .next t ∧
        t.station.state = .isolated ∧ t.station.isolation = some .strap ∧
        t.station.number = s.station.number ∧ t.station.record = s.station.record ∧
        t.bus.tx = none ∧ t.bus.urgent = [] ∧ t.bus.stateSlot = none ∧ t.bus.reportSlot = none ∧ t.bus.rx = [] ∧
        t.bus.loopback = none ∧ t.gov.output = 0 ∧ t.gov.request = 0 ∧ t.counters = s.counters)) ∧
    (s.station.state = .listen ∨ s.station.state = .commission ∨ s.station.state = .run ∨
        30 < s.gov.uRef.natAbs →
      ∃ t, exec (.restart straps) s = .next t ∧ t.geo = t.geometry ∧ State.ReportFollows { s with
        peers := t.peers
        counters := s.counters.bump .refusedOrders } t)

/-- R28, R48, R173: a LOCK in COMMISSION locks the record and moves the station to READY if both cross rules
hold, and offers CONFIG_REFUSED with the first rule that fails if not; elsewhere it is refused and counted. At
the entry to READY a fault line asserted trips the station. (The command carries the line's level, and records
it also where it is refused: the model's choice, log 5.) -/
def Obligations.LockOrders : Prop :=
  ∀ (line : Bool) (s : State) (p : Post) (a : Nat), s.Accepting p → p.source = .s0 → p.OrderFor s .lock a →
    let r := s.station.record
    (s.station.state = .commission →
      (r.controlPeriod ≤ r.postPeriod → r.rampUp ≤ r.rampDown →
        (line = false → ∃ t, exec (.lock line) s = .next t ∧ t.geo = t.geometry ∧ State.ReportFollows { s with
          peers := t.peers
          pins := { s.pins with faultLine := false }
          station := { s.station with locked := true, state := .ready } } t) ∧
        (line = true → ∃ t, exec (.lock line) s = .next t ∧ t.geo = t.geometry ∧
          State.ReportFollows (State.alert { s with
            peers := t.peers
            pins := { s.pins with faultLine := true }
            station := { s.station with locked := true, state := .tripped }
            gov := { s.gov with
              mode := .coast
              update := s.gov.update.map (fun u => { u with discarded := true }) }
            prot := { s.prot with firstCause := some .overcurrent, causes := [.overcurrent], heldReason := false }
            counters := s.counters.bump .overcurrentTrips } .trip [1]) t)) ∧
      (∀ n : Nat, (r.postPeriod < r.controlPeriod ∧ n = 1) ∨
          (r.controlPeriod ≤ r.postPeriod ∧ r.rampDown < r.rampUp ∧ n = 2) →
        ∃ t, exec (.lock line) s = .next t ∧ t.geo = t.geometry ∧ State.ReportFollows (State.alert { s with
          peers := t.peers
          pins := { s.pins with faultLine := line } } .configRefused [n]) t)) ∧
    (s.station.state ≠ .commission → ∃ t, exec (.lock line) s = .next t ∧ t.geo = t.geometry ∧
      State.ReportFollows { s with
        peers := t.peers
        pins := { s.pins with faultLine := line }
        counters := s.counters.bump .refusedOrders } t)

/-! ### The response stack -/

/-- R158, R160 to R162: a raise refreshes a class on the stack, leaves one that waits where it is, defers one
below the top level while an update is in flight, takes it with a new context and an ALERT while none is, and
lets any other wait in the pending set. Where a condition is judged, it is a raise if it holds, and if not a
pending class is withdrawn. -/
def Obligations.RaiseOutcomes : Prop :=
  ∀ (s : State) (c : ProtClass) (ch : Option Channel), s.station.state.live = true → c ≠ .stop →
    (s.prot.onStack c = true → s.raise c ch = { s with prot := { s.prot with
      stack := s.prot.stack.map (fun x => if x.cls = c then
        { x with
          hold := c.minHold
          clearReady := false
          channels := (match ch with
            | some k => if k ∈ x.channels then x.channels else x.channels ++ [k]
            | none => x.channels) }
        else x) } }) ∧
    (s.prot.onStack c = false → c ∈ s.prot.pendingSet ∨ c ∈ s.prot.deferredSet → s.raise c ch = s) ∧
    (s.prot.onStack c = false → c ∉ s.prot.pendingSet → c ∉ s.prot.deferredSet →
      (c.level < s.prot.topLevel → s.gov.update ≠ none →
        (∀ d, d ∈ (s.raise c ch).prot.deferredSet ↔ d = c ∨ d ∈ s.prot.deferredSet) ∧
        s.raise c ch = { s with prot := { s.prot with deferredSet := (s.raise c ch).prot.deferredSet } }) ∧
      (c.level < s.prot.topLevel → s.gov.update = none →
        s.raise c ch = State.alert { s with prot := { s.prot with
          stack := ⟨c, s.bus.seq, s.gov.uRef, s.gov.output, c.minHold, false,
            if c = .sensorFault then s.meas.faultOrder else []⟩ :: s.prot.stack } } .contextTaken
          (c.level :: if c = .sensorFault then s.meas.faultOrder.map Channel.code else [])) ∧
      (s.prot.topLevel ≤ c.level →
        (∀ d, d ∈ (s.raise c ch).prot.pendingSet ↔ d = c ∨ d ∈ s.prot.pendingSet) ∧
        s.raise c ch = { s with prot := { s.prot with pendingSet := (s.raise c ch).prot.pendingSet } })) ∧
    s.judge c true = s.raise c none ∧
    s.judge c false = { s with prot := { s.prot with pendingSet := s.prot.pendingSet.erase c } }

/-- R63, R162, R165: a clear-ready top is popped with CONTEXT_CLEARED and the next one looked at; with
SENSOR_FAULT its channels return to service, each with its last good value, and a pending SENSOR_FAULT is
withdrawn once no channel is faulted. At a top that is not clear-ready the lowest pending class below it is
taken, or, with an update in flight, every pending class below it is deferred. -/
def Obligations.PopsAndPendingTakes : Prop :=
  (∀ (s : State) (x : Context) (rest : List Context), s.prot.stack = x :: rest →
    (x.clearReady = true → x.cls ≠ .sensorFault → s.pop = State.pop (State.alert
      { s with prot := { s.prot with stack := rest } } .contextCleared [x.cls.level])) ∧
    (x.clearReady = true → x.cls = .sensorFault →
      let m := (x.channels.foldl State.returnChannel s).meas
      s.pop = State.pop (State.alert
        { s with
          meas := m
          prot := { s.prot with
            stack := rest
            pendingSet := (if m.faultOrder = [] then s.prot.pendingSet.erase .sensorFault else s.prot.pendingSet) } }
        .contextCleared [6])) ∧
    (x.clearReady = false → s.gov.update = none →
      (∀ c more, s.prot.pendingSet = c :: more → c.level < x.cls.level → s.pop = s.take c) ∧
      ((∀ c, s.prot.pendingSet.head? = some c → x.cls.level ≤ c.level) → s.pop = s)) ∧
    (x.clearReady = false → s.gov.update ≠ none →
      (∀ d, d ∈ s.pop.prot.deferredSet ↔
        d ∈ s.prot.deferredSet ∨ (d ∈ s.prot.pendingSet ∧ d.level < x.cls.level)) ∧
      s.pop = { s with prot := { s.prot with
        pendingSet := s.prot.pendingSet.filter (fun d => decide (x.cls.level ≤ d.level))
        deferredSet := s.pop.prot.deferredSet } })) ∧
  (∀ (s : State) (k : Channel),
    (s.returnChannel k).meas.faultOrder = s.meas.faultOrder.erase k ∧
    (s.returnChannel k).meas.converting = s.meas.converting ∧
    (∀ j, (s.returnChannel k).meas.channels.get j = if j = k then
      { s.meas.channels.get k with
        faulted := false
        value := ((s.meas.channels.get k).lastGood).getD (s.meas.channels.get k).value }
      else s.meas.channels.get j))

/-- R39, R166, R167: the ceilings in force are the least of the contexts on the stack, which are the top
context's; the speed ceiling is none only under BASE; no pending class is more restrictive; the governor's
snapshot reads both. The brake request is asserted by any reason in RUN and always outside it, and gate inhibit
is released only in RUN. -/
def Obligations.LimitsInForce : Prop :=
  ∀ s : State, s.StackInv →
    let p := s.prot.propelCeiling
    let v := s.prot.speedCeiling
    (∀ x ∈ s.prot.stack, p ≤ x.cls.propelCeiling ∧
      ∀ a, x.cls.speedCeiling = some a → ∃ b, v = some b ∧ b ≤ a) ∧
    p = s.prot.top.propelCeiling ∧ v = s.prot.top.speedCeiling ∧ (v = none ↔ s.prot.top = .base) ∧
    (∀ c ∈ s.prot.pendingSet, p ≤ c.propelCeiling ∧
      ∀ a, c.speedCeiling = some a → ∃ b, v = some b ∧ b ≤ a) ∧
    s.snapshot.propelCeiling = p ∧ s.snapshot.speedCeiling = v ∧
    (s.brakeRequest = true ↔ s.station.state ≠ .run ∨ s.prot.onStack .stop = true ∨ s.prot.heldReason = true ∨
      s.prot.shortfallReason = true) ∧
    (s.gateInhibit = false ↔ s.station.state = .run)

/-! ### Timers and the control update -/

/-- R4, R30, R31, R37, R39, R47, R67, R159: an expiry of the age clock builds the STATE post of live state,
field by field (in the states that post), ages every entry that is not ABSENT, reloads the clock, counts the
grace down in RUN and HELD, makes the report of R31, and answers the own-number-heard marker with one ALERT. In
LISTEN it counts towards the listen interval. (The order of these works is deduced, log 12; the command carries
the fault line's level, log 5; the order of two raises at the report is a free value, log 9.) -/
def Obligations.PostPeriodExpiries : Prop :=
  ∀ (line : Bool) (s : State),
    let aged := fun (e : PeerEntry) => if e.presence = .absent then e else
      ({ e with
        age := min 255 (e.age + 1)
        presence := (if e.age + 1 ≤ 2 then .fresh else if e.age + 1 ≤ 9 then .aged else .lost) } : PeerEntry)
    let view : PeerView := { s.peers with
      entries := ⟨aged s.peers.entries.e0, aged s.peers.entries.e1, aged s.peers.entries.e2,
        aged s.peers.entries.e3, aged s.peers.entries.e4⟩
      ownHeard := false
      ageClock := s.station.record.postPeriod }
    let wheel := s.meas.channels.wheelSpeed
    let post : StateRecord := {
      stationState := s.station.state
      mode := s.gov.mode
      topLevel := (match s.prot.stack with
        | x :: _ => x.cls.level
        | [] => 7)
      slip := (if wheel.faulted then .grip else s.gov.slip)
      wheelSpeed := (if wheel.faulted then none else some wheel.value)
      centreSpeed := (if wheel.faulted then none else some ((wheel.value * 4096).tdiv s.geo.turnFactor))
      torque := s.gov.output
      offer := s.grid.offer
      gridTemp := (match s.grid.theta with
        | some x => (x.tdiv 65536).tdiv 10
        | none => 0)
      brake := s.brakeRequest
      tripCause := (if s.station.state = .tripped then s.prot.firstCause else none) }
    (s.station.state.posts = true → ∃ u,
      exec (.postPeriodExpiry line) s
        = .next (if s.peers.ownHeard then u.alert .duplicateHeard [] else u) ∧
      u.geo = u.geometry ∧ State.ReportFollows { s with
        pins := { s.pins with faultLine := line }
        bus := { s.bus with stateSlot := some (.state post) }
        counters := (if s.bus.stateSlot.isSome then s.counters.bump .stateReplacements else s.counters)
        peers := view
        prot := { s.prot with
          grace := (if s.station.state = .run ∨ s.station.state = .held then s.prot.grace - 1
            else s.prot.grace) } } u) ∧
    (s.station.state = .listen → s.station.listenCounter < 15 ∨ s.station.selfCheckPassed = false → ∃ u,
      exec (.postPeriodExpiry line) s
        = .next (if s.peers.ownHeard then u.alert .duplicateHeard [] else u) ∧
      u.geo = u.geometry ∧ State.ReportFollows { s with
        pins := { s.pins with faultLine := line }
        station := { s.station with listenCounter := min 16 (s.station.listenCounter + 1) }
        peers := view } u)

/-- R30, R43, R48, R173: the 16th expiry in LISTEN ends the listen interval: with the self-check passed the
station goes to READY if the record is locked (and trips there while the fault line is asserted), to COMMISSION
if not; no STATE post is built. Without the self-check it stays in LISTEN. The entries age as at every expiry.
That the plain expiry command is the same event here, and that the command carries the fault line's level, are
the model's choices (logs 5, 8). -/
def Obligations.ListenIntervalEnds : Prop :=
  ∀ (line : Bool) (s : State), s.station.state = .listen → s.station.listenCounter = 15 →
    let aged := fun (e : PeerEntry) => if e.presence = .absent then e else
      ({ e with
        age := min 255 (e.age + 1)
        presence := (if e.age + 1 ≤ 2 then .fresh else if e.age + 1 ≤ 9 then .aged else .lost) } : PeerEntry)
    exec (.postPeriodExpiry line) s = exec (.listenIntervalEnd line) s ∧
    ∃ t, exec (.listenIntervalEnd line) s = .next t ∧
      t.station = { s.station with
        listenCounter := 16
        state := (if s.station.selfCheckPassed = false then .listen
          else if s.station.locked = false then .commission
          else if line then .tripped else .ready) } ∧
      (t.station.state = .tripped → t.prot.firstCause = some .overcurrent ∧ t.prot.causes = [.overcurrent] ∧
        t.counters.overcurrentTrips = min 65535 (s.counters.overcurrentTrips + 1)) ∧
      (t.station.state ≠ .tripped → t.gov = s.gov ∧ t.prot.firstCause = s.prot.firstCause ∧
        t.prot.causes = s.prot.causes ∧ t.prot.heldReason = s.prot.heldReason ∧
        t.counters = { s.counters with urgentOverflows := t.counters.urgentOverflows }) ∧
      t.bus = { s.bus with urgent := t.bus.urgent } ∧ s.bus.urgent <+: t.bus.urgent ∧
      t.pins = { s.pins with faultLine := line } ∧
      t.peers = { s.peers with
        entries := ⟨aged s.peers.entries.e0, aged s.peers.entries.e1, aged s.peers.entries.e2,
          aged s.peers.entries.e3, aged s.peers.entries.e4⟩
        ownHeard := false
        ageClock := s.station.record.postPeriod } ∧
      t.geo = t.geometry ∧ t.meas = s.meas ∧ t.grid = s.grid ∧
      t.load.accumulator = s.load.accumulator ∧ t.load.derate = s.load.derate ∧ t.prot.grace = s.prot.grace

/-- R20, R42 to R44, R173: the two test posts are looped through the receiver's own examination, A first, then
B. The self-check passes with A tagged CHECK and B untagged, and then the station leaves LISTEN if the listen
interval is over (a locked station trips in READY while the fault line is asserted); any other pair of tags
isolates it. Undisturbed, the posts get the passing tags under each station number. (Where the receiver reads
another level than the one looped is an operand, log 24, and so is the fault line's level, log 5.) -/
def Obligations.SelfCheckOutcomes : Prop :=
  (∀ (flipsA flipsB : List Nat) (line : Bool) (s : State) (l : Loopback), s.station.state = .listen →
    s.bus.loopback = some l → l.looping = true →
    let tagA := l.tagA.getD (loopedTag l.postA flipsA)
    let tagB := loopedTag l.postB flipsB
    let pins := { s.pins with faultLine := line }
    let bus := { s.bus with loopback := none }
    (tagA = .check → tagB = .untagged →
      (s.station.listenCounter < 16 → exec (.selfCheckCompletion flipsA flipsB line) s = .next { s with
        pins := pins, bus := bus
        station := { s.station with selfCheckPassed := true } }) ∧
      (s.station.listenCounter = 16 → s.station.locked = false ∨ line = false →
        exec (.selfCheckCompletion flipsA flipsB line) s = .next { s with
          pins := pins, bus := bus
          station := { s.station with
            selfCheckPassed := true
            state := (if s.station.locked then .ready else .commission) } }) ∧
      (s.station.listenCounter = 16 → s.station.locked = true → line = true →
        exec (.selfCheckCompletion flipsA flipsB line) s = .next (State.alert { s with
          pins := pins, bus := bus
          station := { s.station with selfCheckPassed := true, state := .tripped }
          counters := s.counters.bump .overcurrentTrips
          gov := { s.gov with
            mode := .coast
            update := s.gov.update.map (fun u => { u with discarded := true }) }
          prot := { s.prot with
            firstCause := some .overcurrent, causes := [.overcurrent], heldReason := false } } .trip [1]))) ∧
    (¬ (tagA = .check ∧ tagB = .untagged) → exec (.selfCheckCompletion flipsA flipsB line) s = .next { s with
      station := { s.station with state := .isolated, isolation := some .selfCheck }
      bus := { s.bus with
        tx := none, urgent := [], stateSlot := none, reportSlot := none, consecutive := 0, rx := []
        receiving := false, loopback := none }
      peers := { s.peers with absorber := none, ownHeard := false }
      meas := { s.meas with converting := none }
      gov := { s.gov with output := 0, request := 0, update := none } })) ∧
  (∀ l : Loopback, l.tagA = none →
    (l.sent + 1 < (postLevels l.postA).length → l.tick = { l with sent := l.sent + 1 }) ∧
    ((postLevels l.postA).length ≤ l.sent + 1 →
      l.tick = { l with tagA := some (loopedTag l.postA []), sent := 0 })) ∧
  (∀ n : Nat, 1 ≤ n → n ≤ 4 →
    (let clean : List Byte := [6, byte n, 0, 0, byte n, 1, 0, 0]
     testPostB n = clean ++ crcBytes clean ∧ testPostA n = clean.set 6 90 ++ crcBytes clean) ∧
    (postLevels (testPostA n)).length = 116 ∧
    loopedTag (testPostA n) [] = .check ∧ loopedTag (testPostB n) [] = .untagged)

/-- R47, R81, R82, R143, R148, R149, R153, R155, R163, R165: an expiry of the control period in RUN begins an
update on a snapshot of the live state; outside RUN it refreshes the held reference speed, the winding cools by
256, and WINDING_HOT is raised or withdrawn. In every state each hold on the stack counts down, clear-ready is
judged by each class's clear condition, and the clear-ready contexts at the top are popped. (Which of the two
works is first is an operand, log 11; the exact forms are those with the governor first.) -/
def Obligations.ControlPeriodExpiries : Prop :=
  ∀ (s : State), s.station.state.live = true → s.gov.update = none → s.StackInv →
    let hotAt := fun (a : Nat) => (decide (45000000 ≤ a) ||
      (!s.meas.channels.windingTemp.faulted && decide (2000 ≤ s.meas.channels.windingTemp.value)) : Bool)
    let coolAt := fun (a : Nat) => (decide (a < 30000000) &&
      (s.meas.channels.windingTemp.faulted || decide (s.meas.channels.windingTemp.value < 1800)) : Bool)
    let clear := fun (a : Nat) (c : ProtClass) => (match c with
      | .gridHot => decide (∃ x ∈ s.grid.gridTemp, x < 5500)
      | .windingHot => coolAt a
      | .slipPersist => decide (100 ≤ s.gov.grip)
      | .payloadOver => s.load.standing == .posted && decide (∃ x ∈ s.load.percentage, x ≤ 115)
      | .peerLoss => decide (s.station.record.minDriven ≤ s.usableCount)
      | .stop | .sensorFault | .base => false : Bool)
    let ticked := fun (a : Nat) (x : Context) => { x with
      hold := x.hold - 1
      clearReady := (match x.cls with
        | .stop | .sensorFault | .base => x.clearReady
        | c => decide (x.hold ≤ 1) && clear a c) }
    let timer := fun (g : Governor) => { g with period := s.station.record.controlPeriod }
    (s.station.state = .run →
      let a := s.load.accumulator
      ∃ t, exec (.controlPeriodExpiry true) s = .next t ∧
      t = State.pop { s with
        gov := { timer s.gov with update := some ⟨s.snapshot, false⟩ }
        prot := { s.prot with stack := s.prot.stack.map (ticked a) } } ∧
      t.gov = { timer s.gov with update := some ⟨s.snapshot, false⟩ } ∧
      t.prot.stack = (s.prot.stack.map (ticked a)).dropWhile Context.clearReady ∧ t.load = s.load ∧
      t.station = s.station ∧ t.peers = s.peers ∧ t.geo = s.geo ∧
      t.grid = s.grid ∧ t.pins = s.pins ∧ (s.prot.onStack .sensorFault = false → t.meas = s.meas) ∧
      t.bus = { s.bus with urgent := t.bus.urgent } ∧ s.bus.urgent <+: t.bus.urgent ∧
      t.counters = { s.counters with urgentOverflows := t.counters.urgentOverflows } ∧
      t.prot = { s.prot with
        stack := t.prot.stack, pendingSet := t.prot.pendingSet, deferredSet := t.prot.deferredSet } ∧
      (∀ c ∈ s.prot.pendingSet, if c.level < t.prot.topLevel then c ∈ t.prot.deferredSet ∧ c ∉ t.prot.pendingSet
        else c ∈ t.prot.pendingSet)) ∧
    (s.station.state ≠ .run →
      let w := s.meas.channels.wheelSpeed
      let d := s.demand.demand
      let v := selectRef d.frontRef s.gov.mode
        (speedCandidates w.value w.faulted s.geo.turnFactor s.peers.entries) s.gov.vRef
      let a := s.load.accumulator - 256
      let judged := State.judge { s with
        gov := { timer s.gov with vRef := v, uRef := v * directionSign d.direction v }
        load := { s.load with accumulator := a, derate := derateOf a } } .windingHot (hotAt a)
      ∃ t, exec (.controlPeriodExpiry true) s = .next t ∧
      t = State.pop { judged with prot := { judged.prot with stack := judged.prot.stack.map (ticked a) } } ∧
      t.gov = { timer s.gov with vRef := v, uRef := v * directionSign d.direction v } ∧
      t.load = { s.load with accumulator := a, derate := derateOf a } ∧
      t.station = s.station ∧ t.peers = s.peers ∧ t.geo = s.geo ∧ t.grid = s.grid ∧ t.pins = s.pins ∧
      (s.prot.onStack .sensorFault = false → t.meas = s.meas) ∧
      t.bus = { s.bus with urgent := t.bus.urgent } ∧ s.bus.urgent <+: t.bus.urgent ∧
      t.counters = { s.counters with urgentOverflows := t.counters.urgentOverflows }) ∧
    (∃ t, exec (.controlPeriodExpiry false) s = .next t ∧ t.station = s.station ∧
      t.gov.period = s.station.record.controlPeriod ∧ t.gov.output = s.gov.output ∧
      (s.station.state = .run → ∃ n, t.gov.update = some ⟨n, false⟩ ∧ n.previous = s.gov.output ∧
        n.propelCeiling = t.prot.propelCeiling ∧ n.speedCeiling = t.prot.speedCeiling ∧
        n.wheelSpeed = t.meas.channels.wheelSpeed.value ∧ n.demand = s.demand ∧ n.geometry = s.geo ∧
        n.offer = s.grid.offer ∧ n.derate = s.load.derate ∧ t.load = s.load) ∧
      (s.station.state ≠ .run → t.gov.update = none ∧ t.load.accumulator = s.load.accumulator - 256))

/-- R61, R80, R84, R91, R103, R104, R142, R146, R148, R160 to R162, R168, R172: the completion of an update that
counts, without an entry to HELD, drives and stores the results of the thirteen stages, clears the opening
marker, lets the two faulted channels follow, integrates the winding heat, and sets or withdraws SHORTFALL. It
raises SLIP_PERSIST at a persistence of 200 and WINDING_HOT at its condition, withdraws them where their
conditions have gone, and judges every deferred class: each is then on the stack or pending, a deferred STOP on
the stack and counted. The HELD brake reason is cleared at 200 TU or without propel demand. That raises at the
completion count as made during the update is deduced (log 10), and so is the direction sign of the WHEEL_SPEED
fallback (log 17). -/
def Obligations.UpdateCompletions : Prop :=
  ∀ (s : State) (n : Snapshot), s.station.state = .run → s.gov.update = some ⟨n, false⟩ →
    let u := runStages s.station.record n
    let short := (if u.uRef ≤ u.ceiling then 0
      else if u.mode = .retard ∧ u.guard = false ∧ (u.ceiling : Int) + 56 < u.uRef ∧ u.reduced = true then
        min 40 (n.shortfall + 1)
      else n.shortfall : Nat)
    let torque := if s.meas.channels.torqueFb.faulted then u.output else s.meas.channels.torqueFb.value
    let heat := torque.natAbs * torque.natAbs * 256
      / (s.station.record.continuousTorque * s.station.record.continuousTorque)
    let acc := min 67108863 (s.load.accumulator + heat - 256)
    let hot := (decide (45000000 ≤ acc) ||
      (!s.meas.channels.windingTemp.faulted && decide (2000 ≤ s.meas.channels.windingTemp.value)) : Bool)
    let raised := fun (c : ProtClass) => (c == .windingHot && hot) || (c == .slipPersist && u.persistence == 200)
    let withdrawn := fun (c : ProtClass) => (c == .windingHot && !hot) ||
      (c == .slipPersist && u.persistence != 200 && (!n.wheelFaulted || u.mode == .coast))
    u.output ≠ 0 ∨ 30 < u.uRef.natAbs ∨ s.gov.holdMarker = false →
    ∃ t, exec .controlUpdateCompletion s = .next t ∧
      t.gov = { s.gov with
        output := u.output, request := u.request, mode := u.mode, vRef := u.vRef, uRef := u.uRef
        uExp := some u.uExp, expSign := u.sign, slip := u.slip, slipFactor := u.slipFactor
        persistence := u.persistence, grip := u.grip, shortfall := short, opening := false
        update := none } ∧
      t.load = { s.load with accumulator := acc, derate := derateOf acc } ∧
      t.meas = { s.meas with channels := { s.meas.channels with
        wheelSpeed := (if s.meas.channels.wheelSpeed.faulted then
          { s.meas.channels.wheelSpeed with value := u.uExp * u.sign } else s.meas.channels.wheelSpeed)
        torqueFb := { s.meas.channels.torqueFb with value := torque } } } ∧
      t.prot.deferredSet = [] ∧
      (∀ c, c ∈ s.prot.deferredSet ∨ raised c = true → t.prot.onStack c = true ∨ c ∈ t.prot.pendingSet) ∧
      (s.StackInv → s.prot.Judged t.prot raised withdrawn s.bus.seq u.uRef u.output s.meas.faultOrder ∧
        (.stop ∈ s.prot.deferredSet → t.prot.top = .stop ∧
          t.counters.stopTakes = min 65535 (s.counters.stopTakes + 1))) ∧
      t.prot.shortfallReason = (if u.uRef ≤ u.ceiling then false
        else if n.shortfall < 40 ∧ short = 40 then true else s.prot.shortfallReason) ∧
      t.prot.heldReason = (if 200 ≤ u.output.natAbs ∨ n.demand.demand.propel = 0 then false
        else s.prot.heldReason) ∧
      t.prot.firstCause = s.prot.firstCause ∧ t.prot.causes = s.prot.causes ∧ t.prot.grace = s.prot.grace ∧
      t.prot.stopLine = s.prot.stopLine ∧ (s.prot.stack.map Context.cls) <:+ (t.prot.stack.map Context.cls) ∧
      t.station = s.station ∧ t.peers = s.peers ∧ t.geo = s.geo ∧ t.grid = s.grid ∧ t.pins = s.pins ∧
      t.bus = { s.bus with urgent := t.bus.urgent } ∧ s.bus.urgent <+: t.bus.urgent ∧
      t.counters = { s.counters with
        urgentOverflows := t.counters.urgentOverflows, stopTakes := t.counters.stopTakes }

/-- R50, R61, R85, R91, R103, R142, R146, R148, R160 to R162, R168, R171: an update that completes with output
0, the truck standing and the hold-request marker set enters HELD: gate inhibit and brake request asserted, mode
HOLD, output and request 0, brake reason HELD, SHORTFALL withdrawn, and one ALERT HOLD_ENTERED last. Before the
entry the faulted channels follow, the winding heat is integrated, and the deferred set is judged as at every
completion. That raises at the completion count as made during the update is deduced (log 10), and so is the
direction sign of the WHEEL_SPEED fallback (log 17). -/
def Obligations.HoldIsEntered : Prop :=
  ∀ (s : State) (n : Snapshot), s.station.state = .run → s.gov.update = some ⟨n, false⟩ →
    let u := runStages s.station.record n
    let torque := if s.meas.channels.torqueFb.faulted then 0 else s.meas.channels.torqueFb.value
    let heat := torque.natAbs * torque.natAbs * 256
      / (s.station.record.continuousTorque * s.station.record.continuousTorque)
    let acc := min 67108863 (s.load.accumulator + heat - 256)
    let hot := (decide (45000000 ≤ acc) ||
      (!s.meas.channels.windingTemp.faulted && decide (2000 ≤ s.meas.channels.windingTemp.value)) : Bool)
    let raised := fun (c : ProtClass) => (c == .windingHot && hot) || (c == .slipPersist && u.persistence == 200)
    let withdrawn := fun (c : ProtClass) => (c == .windingHot && !hot) ||
      (c == .slipPersist && u.persistence != 200 && (!n.wheelFaulted || u.mode == .coast))
    u.output = 0 → u.uRef.natAbs ≤ 30 → s.gov.holdMarker = true →
    ∃ t, exec .controlUpdateCompletion s = .next t ∧ t.station = { s.station with state := .held } ∧
      t.gov = { s.gov with
        output := 0, request := 0, mode := .hold, vRef := u.vRef, uRef := u.uRef
        uExp := some u.uExp, expSign := u.sign, slip := u.slip, slipFactor := u.slipFactor
        persistence := u.persistence, grip := u.grip, shortfall := 0, opening := false, update := none } ∧
      t.load = { s.load with accumulator := acc, derate := derateOf acc } ∧
      t.meas = { s.meas with channels := { s.meas.channels with
        wheelSpeed := (if s.meas.channels.wheelSpeed.faulted then
          { s.meas.channels.wheelSpeed with value := u.uExp * u.sign } else s.meas.channels.wheelSpeed)
        torqueFb := { s.meas.channels.torqueFb with value := torque } } } ∧
      t.prot.heldReason = true ∧ t.prot.shortfallReason = false ∧ t.prot.deferredSet = [] ∧
      (∀ c, c ∈ s.prot.deferredSet ∨ raised c = true → t.prot.onStack c = true ∨ c ∈ t.prot.pendingSet) ∧
      (s.StackInv → s.prot.Judged t.prot raised withdrawn s.bus.seq u.uRef 0 s.meas.faultOrder ∧
        (.stop ∈ s.prot.deferredSet → t.prot.top = .stop ∧
          t.counters.stopTakes = min 65535 (s.counters.stopTakes + 1))) ∧
      t.gateInhibit = true ∧ t.brakeRequest = true ∧
      (t.bus.urgent.length < 4 → t.bus.urgent.getLast? = some (.alert .holdEntered [])) ∧
      t.prot.firstCause = s.prot.firstCause ∧ t.prot.causes = s.prot.causes ∧ t.prot.grace = s.prot.grace ∧
      t.prot.stopLine = s.prot.stopLine ∧
      t.peers = s.peers ∧ t.geo = s.geo ∧ t.grid = s.grid ∧ t.pins = s.pins ∧
      t.bus = { s.bus with urgent := t.bus.urgent } ∧ s.bus.urgent <+: t.bus.urgent ∧
      t.counters = { s.counters with
        urgentOverflows := t.counters.urgentOverflows, stopTakes := t.counters.stopTakes }

/-- R85, R143, R148, R160 to R162, R174: an update whose result a trip discarded completes with the governor as
the departure left it: the winding cools by 256 in place of the integration, WINDING_HOT is raised or withdrawn,
and the deferred set is judged, a deferred STOP taken and counted. That a raise at the completion counts as made
during the update is deduced (log 10). -/
def Obligations.DiscardedUpdates : Prop :=
  ∀ (s : State) (n : Snapshot), s.station.state.live = true → s.gov.update = some ⟨n, true⟩ →
    let acc := s.load.accumulator - 256
    let hot := (decide (45000000 ≤ acc) ||
      (!s.meas.channels.windingTemp.faulted && decide (2000 ≤ s.meas.channels.windingTemp.value)) : Bool)
    ∃ t, exec .controlUpdateCompletion s = .next t ∧ t.gov = { s.gov with update := none } ∧
      t.load = { s.load with accumulator := acc, derate := derateOf acc } ∧
      t.prot = { s.prot with stack := t.prot.stack, pendingSet := t.prot.pendingSet, deferredSet := [] } ∧
      (s.prot.stack.map Context.cls) <:+ (t.prot.stack.map Context.cls) ∧
      (∀ c ∈ s.prot.deferredSet, t.prot.onStack c = true ∨ c ∈ t.prot.pendingSet) ∧
      (s.StackInv → s.prot.Judged t.prot (fun c => c == .windingHot && hot) (fun c => c == .windingHot && !hot)
          s.bus.seq s.gov.uRef s.gov.output s.meas.faultOrder ∧
        (.stop ∈ s.prot.deferredSet → t.prot.top = .stop ∧
          t.counters.stopTakes = min 65535 (s.counters.stopTakes + 1))) ∧
      t.station = s.station ∧ t.meas = s.meas ∧ t.peers = s.peers ∧ t.geo = s.geo ∧ t.grid = s.grid ∧
      t.pins = s.pins ∧ t.bus = { s.bus with urgent := t.bus.urgent } ∧ s.bus.urgent <+: t.bus.urgent ∧
      t.counters = { s.counters with
        urgentOverflows := t.counters.urgentOverflows, stopTakes := t.counters.stopTakes }

/-- R80, R87 to R99, R102, R108, R109, R111: the stages S1 to S10 and the request of S13 are computed from the
snapshot and the record as their rules give them; what an update stores lies in the ranges of the governor's
items, whatever the snapshot's wheel speed. (A reference speed or a request beyond its range is a free value
within it, logs 27, 28.) -/
def Obligations.UpdateResultsInRange : Prop :=
  (∀ (r : CommRecord) (n : Snapshot),
    let u := runStages r n
    let d := n.demand.demand
    let f := n.geometry.turnFactor
    let speeds := (if n.wheelFaulted then [] else [(n.wheelSpeed * 4096).tdiv f])
      ++ n.peers.driven.filterMap (fun x => x.centreSpeed)
    let slip := max (-1000) (min 1000
      (((n.wheelSpeed * u.sign - u.uExp) * 1000).tdiv (max (u.uExp.natAbs : Int) 50)))
    let governs := (u.slip = .slip ∧ (u.mode = .propel ∨ u.guard = true)) ∨
      (u.slip = .skid ∧ u.mode = .retard ∧ u.guard = false)
    let limits := d.ceiling :: (n.speedCeiling.toList ++ n.geometry.turnCeiling.toList
      ++ (if n.payloadClass = .normal then [] else [r.heavyCeiling]))
    let ep := if u.uRef.natAbs ≤ r.baseSpeed then r.propelMax else r.propelMax * r.baseSpeed / u.uRef.natAbs
    let er := min r.retardMax (r.gridPower * r.rollingRadius / max u.uRef.natAbs 100)
    let offers := n.offer + (n.peers.driven.map (fun x => x.offer)).sum
    let fair := if offers = 0 then 0 else u.magnitude * (n.peers.driven.length + 1) * n.offer / offers
    let v := n.linkVoltage
    (∀ x, d.frontRef = some x → u.vRef = x) ∧
    (d.frontRef = none → speeds = [] → u.vRef = n.vRef) ∧
    (∀ x ∈ speeds, d.frontRef = none → -3000 ≤ x → x ≤ 3000 →
      (∀ y ∈ speeds, (if n.mode = .retard then y.natAbs ≤ x.natAbs else x.natAbs ≤ y.natAbs) ∧
        (y.natAbs = x.natAbs → y ≤ x)) → u.vRef = x) ∧
    u.sign = (match d.direction with
      | .forward => 1
      | .reverse => -1
      | .neutral => if u.vRef < 0 then -1 else 1) ∧
    u.uRef = u.vRef * u.sign ∧ u.uExp = (u.uRef * f).tdiv 4096 ∧
    u.slip = (if n.wheelFaulted = true ∨ slip.natAbs ≤ 30 then .grip else if slip.natAbs ≤ 80 then .creep
      else if 80 < slip then .slip else .skid) ∧
    u.slipFactor = (if n.wheelFaulted = true then n.slipFactor
      else if governs then max 256 (n.slipFactor * 3 / 4)
      else if u.slip = .grip then min 1024 (n.slipFactor + 16) else n.slipFactor) ∧
    u.persistence = (if n.wheelFaulted = false ∧ governs then min 200 (n.persistence + 1) else 0) ∧
    u.grip = (if n.wheelFaulted = true then n.grip else if u.slip = .grip then min 255 (n.grip + 1) else 0) ∧
    u.ceiling ∈ limits ∧ (∀ x ∈ limits, u.ceiling ≤ x) ∧
    (u.guard = true ↔ u.uRef < -30) ∧
    u.mode = (if u.uRef < -30 ∨ 0 < d.retard ∨ (u.ceiling : Int) < u.uRef then .retard
      else if 0 < d.propel ∧ d.direction ≠ .neutral then .propel else .coast) ∧
    u.magnitude = (if u.mode = .propel then d.propel * ep / 1000
      else if u.mode = .coast then 0
      else if u.guard = true then min (r.governorGain * u.uRef.natAbs) er
      else min (max (d.retard * er / 1000) (r.governorGain * (u.uRef - u.ceiling).toNat)) er) ∧
    u.share = (if u.mode ≠ .retard then u.magnitude
      else if n.linkFaulted = true then min fair (u.magnitude * 512 / 1024) else fair) ∧
    u.shaped = u.share * (if (u.mode = .propel ∧ n.geometry.role = .outer) ∨
        (u.mode = .retard ∧ n.geometry.role = .inner) then 1000 + n.geometry.diff
      else 1000 - n.geometry.diff) / 1000 ∧
    u.factored = u.shaped * (if n.wheelFaulted = true then 1024 else u.slipFactor) / 1024
      * (if u.mode = .propel then n.derate else if u.mode = .retard then max 512 n.derate else 1024) / 1024
      * (if u.mode = .propel ∧ n.payloadClass ≠ .normal then 922 else 1024) / 1024
      * (if u.mode = .propel then
            (if 1300 ≤ v then 1024 else if 1000 < v then (v - 1000).toNat * 1024 / 300 else 0)
          else if u.mode = .retard then
            (if v ≤ 2000 then 1024 else if v < 2300 then (2300 - v).toNat * 1024 / 300 else 0)
          else 1024) / 1024 ∧
    u.target = (if u.mode = .propel ∨ (u.mode = .retard ∧ u.guard = true) then (u.factored : Int)
      else if u.mode = .retard then -(u.factored : Int) else 0) ∧
    (let power := u.output.natAbs * n.wheelSpeed.natAbs / r.rollingRadius
     (u.mode ≠ .retard → u.request = 0) ∧ (u.mode = .retard → power ≤ 12000 → u.request = power))) ∧
  (∀ (r : CommRecord) (n : Snapshot), r.InRange → (-3000 ≤ n.vRef ∧ n.vRef ≤ 3000) →
    (∀ v, n.demand.demand.frontRef = some v → -3000 ≤ v ∧ v ≤ 3000) →
    (2048 ≤ n.geometry.turnFactor ∧ n.geometry.turnFactor ≤ 6144) →
    (256 ≤ n.slipFactor ∧ n.slipFactor ≤ 1024) → n.persistence ≤ 200 → n.grip ≤ 255 → n.shortfall ≤ 40 →
    let u := runStages r n
    (-4000 ≤ u.output ∧ u.output ≤ 4000) ∧ u.request ≤ 12000 ∧ (-3000 ≤ u.vRef ∧ u.vRef ≤ 3000) ∧
    (-3000 ≤ u.uRef ∧ u.uRef ≤ 3000) ∧ (-4500 ≤ u.uExp ∧ u.uExp ≤ 4500) ∧
    (256 ≤ u.slipFactor ∧ u.slipFactor ≤ 1024) ∧ u.persistence ≤ 200 ∧ u.grip ≤ 255 ∧
    nextShortfall n.shortfall u ≤ 40 ∧ u.mode ≠ .hold)

/-- R84, R100, R101: an update moves the output from the previous one toward the target by ramp_up or ramp_down,
falls toward 0 and never passes it where the signs differ, and limits the magnitude by its mode's hard limits,
keeping the sign. So its magnitude rises by at most ramp_up and its sign never turns into the opposite of the
previous output's; an opening update gives output 0 and request 0, and under the STOP context's ceilings a
moving truck is retarded. -/
def Obligations.OutputIsRampedAndClamped : Prop :=
  ∀ (r : CommRecord) (n : Snapshot),
    let u := runStages r n
    let before := n.previous * u.sign
    let a := before.natAbs
    let b := u.target.natAbs
    let propelLimit := min (n.propelCeiling * propelEnvelope r u.uRef / 1000) (propelEnvelope r u.uRef)
    let retardLimit := min (n.offer * r.rollingRadius / max u.uRef.natAbs 100)
      (min r.retardMax (r.gridPower * r.rollingRadius / max u.uRef.natAbs 100))
    let limit := (match u.mode with
      | .propel => propelLimit
      | .retard => retardLimit
      | .coast | .hold => min propelLimit retardLimit)
    (n.opening = true → u.output = 0 ∧ u.request = 0) ∧
    (n.opening = false →
      (0 ≤ before * u.target → a < b → u.ramped = u.target.sign * (min b (a + r.rampUp) : Nat)) ∧
      (0 ≤ before * u.target → b < a → u.ramped = before.sign * (max b (a - r.rampDown) : Nat)) ∧
      (0 ≤ before * u.target → a = b → u.ramped = u.target) ∧
      (before * u.target < 0 → u.ramped = before.sign * (a - r.rampDown : Nat))) ∧
    u.limited = u.ramped.sign * (min u.ramped.natAbs limit : Nat) ∧ u.output = u.limited * u.sign ∧
    (u.sign = 1 ∨ u.sign = -1) ∧
    u.output.natAbs ≤ n.previous.natAbs + r.rampUp ∧ 0 ≤ u.output * n.previous ∧
    (u.mode = .retard → u.output.natAbs ≤ retardLimit) ∧
    (n.speedCeiling = some 0 → 0 < u.uRef → u.mode = .retard) ∧
    (n.propelCeiling = 0 → u.mode = .propel → u.output = 0)

/-- R108 to R110: the shares of stations that hold one view add up to n × M, less at most one TU for each
station, and equal offers give every station M. -/
def Obligations.SharesAddUp : Prop :=
  ∀ (m : Nat) (offers : List Nat), 0 < offers.sum →
    (offers.map (fun c => shareOf m offers.length c offers.sum)).sum ≤ m * offers.length ∧
    m * offers.length ≤ (offers.map (fun c => shareOf m offers.length c offers.sum)).sum + offers.length ∧
    (∀ c, (∀ d ∈ offers, d = c) → shareOf m offers.length c offers.sum = m) ∧
    shareOf m offers.length 0 offers.sum = 0

/-! ### Measurement channels -/

/-- R54 to R60, R62, R148, R162, R173 to R175: a completed conversion is judged by its plausibility range and,
for WHEEL_SPEED, the rate check. A GOOD result becomes last good and, on a channel in service, the value; a BAD
one is counted and changes no value; the eighth BAD in a row faults a channel in service at the tail of the
fault-order list and raises SENSOR_FAULT. A WINDING_TEMP result raises or withdraws WINDING_HOT. A GOOD
LINK_VOLTAGE of 2300 V or more in service is a LINK_HARD cause: a trip in READY, RUN and HELD, a further cause
in TRIPPED, without effect before. Then the next channel's conversion begins. The direction sign of the
WHEEL_SPEED fallback is deduced (log 17). -/
def Obligations.ConversionsAreJudged : Prop :=
  ∀ (raw : Int) (s : State) (c : Channel), s.station.state.live = true → s.meas.converting = some c →
    let r := s.meas.channels.get c
    let x := if c = .wheelSpeed then (raw * s.station.record.rollingRadius).tdiv 10000 else raw
    let good := (plausible c).1 ≤ x ∧ x ≤ (plausible c).2 ∧ (c = .wheelSpeed →
      ∀ v, (if r.faulted then some r.value else r.lastGood) = some v → -150 ≤ x - v ∧ x - v ≤ 150)
    let hard := c = .linkVoltage ∧ 2300 ≤ x ∧ r.faulted = false
    let afterGood := { s.meas with
      channels := s.meas.channels.set { r with
        status := some .good, goodRun := min 255 (r.goodRun + 1), badRun := 0, lastGood := some x
        value := if r.faulted then r.value else x } c
      converting := some c.next }
    let judgeWinding := fun (a : State) => if c = .windingTemp then a.judge .windingHot
      (decide (45000000 ≤ s.load.accumulator) ||
        (!a.meas.channels.windingTemp.faulted && decide (2000 ≤ a.meas.channels.windingTemp.value))) else a
    (good → ¬ hard ∨ s.station.state = .listen ∨ s.station.state = .commission →
      exec (.conversionCompletion raw) s = .next (judgeWinding { s with
        meas := afterGood
        grid := { s.grid with
          elementGood := if c = .gridElementTemp then some x else s.grid.elementGood
          currentLow := s.grid.currentLow && (c != .gridCurrent || decide (x < 50)) } })) ∧
    (good → hard → s.station.state = .ready ∨ s.station.state = .run ∨ s.station.state = .held →
      ∃ t, exec (.conversionCompletion raw) s = .next t ∧ t.station = { s.station with state := .tripped } ∧
        t.prot = { s.prot with
          firstCause := some .linkHard, causes := [.linkHard], heldReason := false
          shortfallReason := (if s.station.state = .run then false else s.prot.shortfallReason) } ∧
        t.counters.linkHardTrips = min 65535 (s.counters.linkHardTrips + 1) ∧
        t.meas.channels.linkVoltage = afterGood.channels.linkVoltage ∧ t.meas.converting = some .windingTemp ∧
        t.meas.faultOrder = s.meas.faultOrder ∧ t.gov.mode = .coast ∧
        (s.station.state = .run → t.gov.output = 0 ∧ t.gov.request = 0) ∧
        t.grid = s.grid ∧ t.load = s.load ∧ t.geo = s.geo ∧ t.peers = s.peers ∧
        t.bus = { s.bus with urgent := t.bus.urgent } ∧ s.bus.urgent <+: t.bus.urgent) ∧
    (good → hard → s.station.state = .tripped → exec (.conversionCompletion raw) s = .next { s with
      meas := afterGood
      counters := s.counters.bump .linkHardTrips
      prot := { s.prot with
        causes := (if .linkHard ∈ s.prot.causes then s.prot.causes else s.prot.causes ++ [.linkHard]) } }) ∧
    (¬ good → r.badRun ≠ 7 → exec (.conversionCompletion raw) s = .next (judgeWinding { s with
      meas := { s.meas with
        channels := s.meas.channels.set { r with
          status := some .bad, badRun := min 255 (r.badRun + 1), goodRun := 0 } c
        converting := some c.next }
      grid := { s.grid with currentLow := s.grid.currentLow && c != .gridCurrent } })) ∧
    (¬ good → r.badRun = 7 → exec (.conversionCompletion raw) s = .next (judgeWinding (State.raise { s with
      meas := { s.meas with
        channels := s.meas.channels.set { r with
          status := some .bad, badRun := 8, goodRun := 0, faulted := true
          value := (if r.faulted then r.value else match c with
            | .wheelSpeed => s.gov.uExp.getD 0 * s.gov.expSign
            | .torqueFb => s.gov.output
            | .linkVoltage => 1800
            | .gridAirTemp => 500
            | .windingTemp | .gridElementTemp | .gridCurrent => r.lastGood.getD 0) } c
        faultOrder := (if r.faulted then s.meas.faultOrder else s.meas.faultOrder ++ [c])
        converting := some c.next }
      grid := { s.grid with currentLow := s.grid.currentLow && c != .gridCurrent } } .sensorFault (some c))))

/-! ### Steering geometry and the grid section -/

/-- R70, R71, R75, R76: at every legal steer angle the tangent's magnitude lies within 4096 (and is at least 7
unless the angle is 0), the turn factor lies within 2048 to 6144, the turn ceiling is the largest whole v with v
× v ≤ X, capped at 3000, and lies within 122 to 3000, and the differential is at most 150. -/
def Obligations.GeometryOfTheCurve : Prop :=
  ∀ (d : DemandInForce) (side : Side) (r : CommRecord), r.InRange →
    (-450 ≤ d.demand.steer ∧ d.demand.steer ≤ 450) →
    let g := geometryOf d side r
    (g.tanT = 0 ↔ d.demand.steer = 0) ∧ (d.demand.steer ≠ 0 → 7 ≤ g.tanT.natAbs ∧ g.tanT.natAbs ≤ 4096) ∧
    g.tanT = -(tangent (-d.demand.steer)) ∧
    (2048 ≤ g.turnFactor ∧ g.turnFactor ≤ 6144) ∧ g.diff ≤ 150 ∧ (d.diffEnabled = false → g.diff = 0) ∧
    (d.demand.steer = 0 → g.turnCeiling = none ∧ g.turnFactor = 4096 ∧ g.role = .straight) ∧
    (d.demand.steer ≠ 0 → ∃ v, g.turnCeiling = some v ∧ 122 ≤ v ∧ v ≤ 3000 ∧
      v * v ≤ r.lateralLimit * r.wheelbase * 4096 / (10 * g.tanT.natAbs) ∧
      (v < 3000 → r.lateralLimit * r.wheelbase * 4096 / (10 * g.tanT.natAbs) < (v + 1) * (v + 1)))

/-- R125: a frame conducts for its first base counts, one more where one of the six values present in ext
stretches the frame; over a superframe the gate conducts for exactly as many counts as the duty. -/
def Obligations.DutyIsDithered : Prop :=
  (∀ duty : Nat, duty ≤ 4095 →
    (((List.range 64).map (fun k => conductingCounts duty (k + 1))).sum = duty) ∧
    (∀ k, 1 ≤ k → k ≤ 64 →
      let ext := duty % 64
      conductingCounts duty k = duty / 64 + (if
        (32 ≤ ext ∧ k % 2 = 1) ∨ (16 ≤ ext % 32 ∧ k % 4 = 2) ∨ (8 ≤ ext % 16 ∧ k % 8 = 4) ∨
        (4 ≤ ext % 8 ∧ k % 16 = 8) ∨ (2 ≤ ext % 4 ∧ (k = 16 ∨ k = 48)) ∨ (ext % 2 = 1 ∧ k = 32)
        then 1 else 0) ∧
      conductingCounts duty k ≤ 64) ∧
    conductingCounts duty 64 = duty / 64) ∧
  (∀ s : State, s.station.state ≠ .reset →
    (s.chopperGate = true ↔ s.grid.count ≤ conductingCounts s.grid.duty s.grid.frame) ∧
    (s.grid.duty = 0 → s.chopperGate = false))

/-- R129, R132, R146: a started model stays between the grid air value and 1200.0 °C after a step and never
falls with more power, the offer of a temperature lies within grid_power and never rises with the temperature,
and the winding derate falls in a straight line from 1024 at the knee to 0 at the limit. -/
def Obligations.ThermalModelsAndDerates : Prop :=
  (∀ (theta air : Int) (power k density : Nat), air ≤ 12000 →
    air * 65536 ≤ stepModel theta air power k density ∧ stepModel theta air power k density ≤ 12000 * 65536) ∧
  (∀ (theta air : Int) (p q k density : Nat), p ≤ q →
    stepModel theta air p k density ≤ stepModel theta air q k density) ∧
  (∀ (gridPower : Nat) (x y : Int), x ≤ y →
    offerOfTemp gridPower y ≤ offerOfTemp gridPower x ∧ offerOfTemp gridPower x ≤ gridPower ∧
    (6000 ≤ x → offerOfTemp gridPower x = 0) ∧ (x ≤ 5000 → offerOfTemp gridPower x = gridPower)) ∧
  (∀ a b : Nat, a ≤ b →
    derateOf b ≤ derateOf a ∧ derateOf a ≤ 1024 ∧ (a ≤ 30000000 → derateOf a = 1024) ∧
    (30000000 < a → a < 45000000 → derateOf a = 1024 * (45000000 - a) / 15000000) ∧
    (45000000 ≤ a → derateOf a = 0))

/-- R123, R124, R126, R127, R129, R131 to R136, R139, R148, R173 to R175: a superframe completion works out
power, model, temperature and offer from the superframe just completed, raises GRID_HOT at 600.0 °C or withdraws
it, counts low-current superframes (the eighth is a GRID_OPEN cause: a trip in READY, RUN and HELD, a further
cause in TRIPPED, without effect elsewhere), acts on the requested stage (with a spin-up in flight:
SpinUpCompletions), and latches the next superframe's voltage and the duty of the state it then is in. A
superframe without a GRID_CURRENT result counts as low, and one in flight at a warm restart is not counted (logs
15, 16). -/
def Obligations.SuperframeCompletions : Prop :=
  ∀ (running : Bool) (s : State), s.station.state ≠ .reset →
    let power := s.grid.duty * (s.grid.latchedVoltage * s.grid.latchedVoltage)
      / (4096 * s.station.record.gridResistance)
    let air := s.meas.channels.gridAirTemp.value
    let element := s.meas.channels.gridElementTemp
    let theta := (match s.grid.theta with
      | some x => some (stepModel x air power
        (coolingCoefficient s.grid.established s.grid.blowerFault) s.station.record.airDensity)
      | none => s.grid.elementGood.map (fun e => max e air * 65536))
    let tm := theta.map (fun x => x.tdiv 65536)
    let tg := tm.map (fun x => if element.faulted then x else max x element.value)
    let low := s.meas.channels.gridCurrent.faulted = false ∧ s.grid.counted = true ∧ 1024 ≤ s.grid.duty ∧
      s.grid.currentLow = true
    let cause := low ∧ 7 ≤ s.grid.openCounter
    let trips := s.station.state = .ready ∨ s.station.state = .run ∨ s.station.state = .held
    let judged := s.judge .gridHot (match tg with
      | some x => decide (6000 ≤ x)
      | none => false)
    let q := requestedStage s.grid.target (tm.getD 0) s.grid.duty
    let v := s.meas.channels.linkVoltage.value.toNat
    ∃ t, exec (.superframeCompletion running) s = .next t ∧
      t.grid.theta = theta ∧ t.grid.gridTemp = tg ∧
      t.grid.offer = (match tg with
        | some x => if s.station.state = .run ∧ s.prot.firstCause = none then
            (if s.grid.blowerFault then offerOfTemp s.station.record.gridPower x / 2
              else offerOfTemp s.station.record.gridPower x)
          else 0
        | none => 0) ∧
      t.grid.openCounter = (if low then (if 7 ≤ s.grid.openCounter then 0 else s.grid.openCounter + 1) else 0) ∧
      (s.grid.spinUp = none →
        (t.grid.target, t.grid.established, t.grid.spinUp) =
          (if s.grid.established < q then (q, s.grid.established, some 125)
            else if q < s.grid.established then (q, q, none)
            else (s.grid.target, s.grid.established, none)) ∧
        t.grid.blowerFault = s.grid.blowerFault ∧ t.pins = s.pins) ∧
      t.grid.elementGood = s.grid.elementGood ∧
      t.grid.elapsed = 0 ∧ t.grid.currentLow = true ∧ t.grid.counted = true ∧ t.grid.latchedVoltage = v ∧
      t.grid.duty = (match t.station.state with
        | .run | .held => computedDuty t.gov.request s.station.record.gridResistance v
            s.meas.channels.linkVoltage.faulted
        | .tripped => if t.prot.firstCause = some .linkHard ∧ 2000 ≤ v then 4095 else 0
        | _ => 0) ∧
      t.prot.stack = judged.prot.stack ∧ t.prot.pendingSet = judged.prot.pendingSet ∧
      t.prot.deferredSet = judged.prot.deferredSet ∧ judged.bus.urgent <+: t.bus.urgent ∧
      (¬ cause ∨ (¬ trips ∧ s.station.state ≠ .tripped) → t.station = s.station ∧ t.gov = s.gov ∧
        t.meas = s.meas ∧ t.prot = judged.prot ∧
        t.counters = { s.counters with urgentOverflows := t.counters.urgentOverflows }) ∧
      (cause → trips →
        t.station = { s.station with state := .tripped } ∧ t.prot.firstCause = some .gridOpen ∧
        t.prot.causes = [.gridOpen] ∧ t.prot.heldReason = false ∧ t.gov.mode = .coast ∧
        (s.station.state = .run → t.gov.output = 0 ∧ t.gov.request = 0) ∧
        t.counters.gridOpenTrips = min 65535 (s.counters.gridOpenTrips + 1)) ∧
      (cause → s.station.state = .tripped →
        t.station = s.station ∧ t.gov = s.gov ∧ t.meas = s.meas ∧
        t.prot = { judged.prot with
          causes := (if .gridOpen ∈ s.prot.causes then s.prot.causes else s.prot.causes ++ [.gridOpen]) } ∧
        t.counters.gridOpenTrips = min 65535 (s.counters.gridOpenTrips + 1)) ∧
      t.load = s.load ∧ t.geo = s.geo ∧ t.peers = s.peers ∧
      t.bus = { s.bus with urgent := t.bus.urgent }

/-- R134 to R137: at the completion of a spin-up the stage it served is established if the blowers run, and the
blower fault then ends; if not, the target returns to the established stage and a blower fault is present, with
one ALERT when it is new. The requested stage is then worked out from what was left. A spin-up with more
superframes left is counted down. The two commands are one event at the last superframe of a spin-up (log 7),
and carry the level of the blower-running line, which is recorded (log 5). -/
def Obligations.SpinUpCompletions : Prop :=
  ∀ (running : Bool) (s : State), s.station.state ≠ .reset →
    (s.grid.spinUp = some 1 → ∃ t, exec (.spinUpCompletion running) s = .next t ∧
      exec (.superframeCompletion running) s = .next t ∧
      (let stage := if running then s.grid.target else s.grid.established
       let q := requestedStage stage ((t.grid.theta.map (fun x => x.tdiv 65536)).getD 0) s.grid.duty
       (t.grid.target, t.grid.established, t.grid.spinUp) =
        (if stage < q then (q, stage, some 125) else (q, q, none))) ∧
      t.grid.blowerFault = !running ∧ t.pins = { s.pins with blowerRunning := running } ∧
      (running = false → s.grid.blowerFault = false → s.station.state ≠ .isolated → t.bus.urgent.length < 4 →
        t.bus.urgent.getLast? = some (.alert .blowerFault [])) ∧
      t.load = s.load ∧ t.geo = s.geo ∧ t.peers = s.peers ∧ t.bus = { s.bus with urgent := t.bus.urgent }) ∧
    (∀ n, s.grid.spinUp = some n → 2 ≤ n → ∃ t, exec (.superframeCompletion running) s = .next t ∧
      (let q := requestedStage s.grid.target ((t.grid.theta.map (fun x => x.tdiv 65536)).getD 0) s.grid.duty
       (t.grid.target, t.grid.established, t.grid.spinUp) =
        (if s.grid.target < q then (q, s.grid.established, some 125)
          else if q = s.grid.target then (s.grid.target, s.grid.established, some (n - 1))
          else if q = s.grid.established then (q, s.grid.established, none)
          else if q < s.grid.established then (q, q, none)
          else (q, s.grid.established, some 125))) ∧
      t.grid.blowerFault = s.grid.blowerFault ∧ t.pins = s.pins ∧ t.load = s.load ∧ t.geo = s.geo ∧
      t.peers = s.peers ∧ t.bus = { s.bus with urgent := t.bus.urgent })

/-! ### Lines and resets -/

/-- R7, R168, R169, R177: the stop line becoming asserted is recorded, offers an ORDER STOP to ALL, and is a
STOP: taken, deferred during an update in RUN, or counted as a second one. Its becoming inactive is recorded and
pops nothing. That outside RUN it is taken at once also with a (discarded) update in flight is deduced (log 29). -/
def Obligations.StopLineEvents : Prop :=
  ∀ s : State, s.station.state.live = true →
    (s.pins.stopLine = false →
      let pins := { s.pins with stopLine := true }
      let offered := fun (pr : Protection) (b : Body) =>
        (State.offerUrgent (State.offerUrgent { s with pins := pins, prot := pr } (.order .stop 15 0)) b)
      (s.prot.onStack .stop = false → .stop ∉ s.prot.deferredSet → .stop ∉ s.prot.pendingSet →
        s.station.state ≠ .run ∨ s.gov.update = none →
        exec .stopLineAsserted s = .next ((offered { s.prot with
          stopLine := true
          stack := ⟨.stop, s.bus.seq, s.gov.uRef, s.gov.output, 0, false, []⟩ :: s.prot.stack }
          (.alert .stopTaken [])).bump .stopTakes)) ∧
      (s.prot.onStack .stop = false → .stop ∉ s.prot.deferredSet → s.station.state = .run →
        s.gov.update ≠ none →
        exec .stopLineAsserted s = .next (State.offerUrgent { s with
          pins := pins
          prot := { s.prot with stopLine := true, deferredSet := .stop :: s.prot.deferredSet } }
          (.order .stop 15 0))) ∧
      (s.prot.onStack .stop = true ∨ .stop ∈ s.prot.deferredSet →
        exec .stopLineAsserted s = .next ((State.offerUrgent { s with
          pins := pins
          prot := { s.prot with stopLine := true } } (.order .stop 15 0)).bump .stopTakes))) ∧
    exec .stopLineInactive s = .next { s with
      pins := { s.pins with stopLine := false }
      prot := { s.prot with stopLine := false } }

/-- R173, R174, R175: the power-stage fault line trips a station in READY, RUN or HELD: latch and cause set,
TRIPPED, torque and request 0, an update in flight to be discarded, HELD cleared, one ALERT TRIP. In TRIPPED it
is a further cause, counted and added once; in every other state it has no effect. -/
def Obligations.PowerStageFaults : Prop :=
  ∀ s : State,
    (s.station.state = .run → ∃ t u, exec .powerStageFault s = .next t ∧ t = State.alert u .trip [1] ∧
      u = { s with
        pins := { s.pins with faultLine := true }
        station := { s.station with state := .tripped }
        counters := s.counters.bump .overcurrentTrips
        meas := { s.meas with channels := { s.meas.channels with torqueFb :=
          (if s.meas.channels.torqueFb.faulted then { s.meas.channels.torqueFb with value := 0 }
            else s.meas.channels.torqueFb) } }
        gov := { s.gov with
          output := 0, request := 0, shortfall := 0, mode := .coast
          update := s.gov.update.map (fun x => { x with discarded := true }) }
        prot := { s.prot with
          firstCause := some .overcurrent, causes := [.overcurrent]
          heldReason := false, shortfallReason := false } } ∧
      t.brakeRequest = true ∧ t.gateInhibit = true) ∧
    (s.station.state = .ready ∨ s.station.state = .held →
      exec .powerStageFault s = .next (State.alert { s with
        pins := { s.pins with faultLine := true }
        station := { s.station with state := .tripped }
        counters := s.counters.bump .overcurrentTrips
        gov := { s.gov with
          mode := .coast, update := s.gov.update.map (fun x => { x with discarded := true }) }
        prot := { s.prot with
          firstCause := some .overcurrent, causes := [.overcurrent], heldReason := false } } .trip [1])) ∧
    (s.station.state = .tripped → exec .powerStageFault s = .next { s with
      pins := { s.pins with faultLine := true }
      counters := s.counters.bump .overcurrentTrips
      prot := { s.prot with
        causes := (if .overcurrent ∈ s.prot.causes then s.prot.causes
          else s.prot.causes ++ [.overcurrent]) } }) ∧
    (s.station.state = .listen ∨ s.station.state = .commission ∨ s.station.state = .reset ∨
        s.station.state = .isolated →
      exec .powerStageFault s = .next { s with pins := { s.pins with faultLine := true } })

/-- R40, R50, R85, R122, R136: the reset line takes the station to RESET from any state, every operation in
flight is abandoned, and a departure from RUN drops torque output and request to 0. (What else is given for the
release keeps its value until then, log 26; the blower stage among it, log 35.) -/
def Obligations.ColdResets : Prop :=
  ∀ s : State, ∃ t, exec .coldReset s = .next t ∧
    t.station = { s.station with state := .reset } ∧ t.pins = { s.pins with resetLine := true } ∧
    t.bus = { s.bus with
      tx := s.bus.tx.map (fun x => { x with attempt := none }), receiving := false, loopback := none } ∧
    t.driving = none ∧ t.peers = { s.peers with absorber := none } ∧ t.meas.converting = none ∧
    t.gov.update = none ∧ t.grid = { s.grid with elapsed := 0, spinUp := none } ∧
    (s.station.state = .run → t.gov.output = 0 ∧ t.gov.request = 0 ∧ t.gov.mode = .coast ∧
      t.gov.shortfall = 0 ∧ t.prot.shortfallReason = false) ∧
    (s.station.state ≠ .run → t.gov = { s.gov with update := none } ∧ t.prot = s.prot) ∧
    t.brakeRequest = true ∧ t.gateInhibit = true ∧ t.chopperGate = false ∧
    t.counters = s.counters ∧ t.load = s.load ∧ t.geo = s.geo

/-- R40 to R42, R45, R52, R53, R80, R121, R141, R169, R177: the release of the reset line enters LISTEN with
every block at its value of cold reset, the straps as the station number, the first conversion and the
self-check begun; a stop line asserted then counts as becoming asserted. Straps that are no station number
isolate the station at once, without a self-check; that nothing is then counted or pushed for an asserted stop
line is deduced (log 20). The straps are recorded from the command (log 5). -/
def Obligations.ResetReleases : Prop :=
  ∀ (straps : Fin 8) (s : State), s.station.state = .reset →
    let n := straps.val
    (1 ≤ n → n ≤ 4 → ∃ t, exec (.resetRelease straps) s = .next t ∧
      t.station = ⟨.listen, n, none, ⟨6500, 1900, 2900, 3000, 400, 3000, 2000, 1000, 290, 256, 5, 10, 2, 8, 40,
        120, 200, 1800, 1111, 417⟩, false, 0, false⟩ ∧
      t.pins = { s.pins with resetLine := false, straps := straps } ∧
      t.counters = (if s.pins.stopLine then Counters.zero.bump .stopTakes else Counters.zero) ∧
      t.bus = { BusPort.cold with
        urgent := (if s.pins.stopLine then [.order .stop 15 0, .alert .stopTaken []] else [])
        loopback := some ⟨testPostA n, testPostB n, none, 0, true⟩ } ∧
      t.peers = .cold ∧ t.meas = { Measurement.cold with converting := some .wheelSpeed } ∧
      t.geo = ⟨0, 0, 4096, .straight, none, false, 0⟩ ∧ t.gov = .cold ∧ t.grid = .cold ∧ t.load = .cold ∧
      t.prot = { Protection.cold with
        stopLine := s.pins.stopLine
        stack := (if s.pins.stopLine then [⟨.stop, 0, 0, 0, 0, false, []⟩, Context.base] else [Context.base]) } ∧
      t.pending = s.pending) ∧
    (n = 0 ∨ 5 ≤ n → ∃ t, exec (.resetRelease straps) s = .next t ∧
      t.station = ⟨.isolated, n, some .strap, .default, false, 0, false⟩ ∧ t.bus = .cold ∧
      t.meas = .cold ∧ t.counters = .zero ∧ t.gov = .cold ∧ t.grid = .cold ∧ t.load = .cold ∧
      t.prot = { Protection.cold with stopLine := s.pins.stopLine })
end

