-- ==== Sys2Proof/Laws/State.lean ====
section
/-! SUPPORT. What each update of the state leaves alone: one lemma per update and field, so that no later
proof unfolds a record update. -/

namespace Sys2Proof.Machine

variable (s : State)

@[simp] theorem State.bump_pins (c : CounterId) : (s.bump c).pins = s.pins := rfl
@[simp] theorem State.bump_station (c : CounterId) : (s.bump c).station = s.station := rfl
@[simp] theorem State.bump_bus (c : CounterId) : (s.bump c).bus = s.bus := rfl
@[simp] theorem State.bump_peers (c : CounterId) : (s.bump c).peers = s.peers := rfl
@[simp] theorem State.bump_meas (c : CounterId) : (s.bump c).meas = s.meas := rfl
@[simp] theorem State.bump_geo (c : CounterId) : (s.bump c).geo = s.geo := rfl
@[simp] theorem State.bump_gov (c : CounterId) : (s.bump c).gov = s.gov := rfl
@[simp] theorem State.bump_grid (c : CounterId) : (s.bump c).grid = s.grid := rfl
@[simp] theorem State.bump_load (c : CounterId) : (s.bump c).load = s.load := rfl
@[simp] theorem State.bump_prot (c : CounterId) : (s.bump c).prot = s.prot := rfl
@[simp] theorem State.bump_reports (c : CounterId) : (s.bump c).reports = s.reports := rfl
@[simp] theorem State.bump_pending (c : CounterId) : (s.bump c).pending = s.pending := rfl

@[simp] theorem State.offerReport_pins (b : Body) : (s.offerReport b).pins = s.pins := rfl
@[simp] theorem State.offerReport_station (b : Body) : (s.offerReport b).station = s.station := rfl
@[simp] theorem State.offerReport_counters (b : Body) : (s.offerReport b).counters = s.counters := rfl
@[simp] theorem State.offerReport_peers (b : Body) : (s.offerReport b).peers = s.peers := rfl
@[simp] theorem State.offerReport_meas (b : Body) : (s.offerReport b).meas = s.meas := rfl
@[simp] theorem State.offerReport_geo (b : Body) : (s.offerReport b).geo = s.geo := rfl
@[simp] theorem State.offerReport_gov (b : Body) : (s.offerReport b).gov = s.gov := rfl
@[simp] theorem State.offerReport_grid (b : Body) : (s.offerReport b).grid = s.grid := rfl
@[simp] theorem State.offerReport_load (b : Body) : (s.offerReport b).load = s.load := rfl
@[simp] theorem State.offerReport_prot (b : Body) : (s.offerReport b).prot = s.prot := rfl
@[simp] theorem State.offerReport_reports (b : Body) : (s.offerReport b).reports = s.reports := rfl
@[simp] theorem State.offerReport_pending (b : Body) : (s.offerReport b).pending = s.pending := rfl

@[simp] theorem State.setChannel_pins (c : Channel) (r : ChannelRecord) : (s.setChannel c r).pins = s.pins := rfl
@[simp] theorem State.setChannel_station (c : Channel) (r : ChannelRecord) :
    (s.setChannel c r).station = s.station :=
  rfl
@[simp] theorem State.setChannel_bus (c : Channel) (r : ChannelRecord) : (s.setChannel c r).bus = s.bus := rfl
@[simp] theorem State.setChannel_counters (c : Channel) (r : ChannelRecord) :
    (s.setChannel c r).counters = s.counters :=
  rfl
@[simp] theorem State.setChannel_peers (c : Channel) (r : ChannelRecord) : (s.setChannel c r).peers = s.peers :=
  rfl
@[simp] theorem State.setChannel_geo (c : Channel) (r : ChannelRecord) : (s.setChannel c r).geo = s.geo := rfl
@[simp] theorem State.setChannel_gov (c : Channel) (r : ChannelRecord) : (s.setChannel c r).gov = s.gov := rfl
@[simp] theorem State.setChannel_grid (c : Channel) (r : ChannelRecord) : (s.setChannel c r).grid = s.grid := rfl
@[simp] theorem State.setChannel_load (c : Channel) (r : ChannelRecord) : (s.setChannel c r).load = s.load := rfl
@[simp] theorem State.setChannel_prot (c : Channel) (r : ChannelRecord) : (s.setChannel c r).prot = s.prot := rfl
@[simp] theorem State.setChannel_reports (c : Channel) (r : ChannelRecord) :
    (s.setChannel c r).reports = s.reports :=
  rfl
@[simp] theorem State.setChannel_pending (c : Channel) (r : ChannelRecord) :
    (s.setChannel c r).pending = s.pending :=
  rfl

@[simp] theorem State.setChannelValue_pins (c : Channel) (v : Int) : (s.setChannelValue c v).pins = s.pins := rfl
@[simp] theorem State.setChannelValue_station (c : Channel) (v : Int) :
    (s.setChannelValue c v).station = s.station :=
  rfl
@[simp] theorem State.setChannelValue_bus (c : Channel) (v : Int) : (s.setChannelValue c v).bus = s.bus := rfl
@[simp] theorem State.setChannelValue_counters (c : Channel) (v : Int) :
    (s.setChannelValue c v).counters = s.counters :=
  rfl
@[simp] theorem State.setChannelValue_peers (c : Channel) (v : Int) : (s.setChannelValue c v).peers = s.peers :=
  rfl
@[simp] theorem State.setChannelValue_geo (c : Channel) (v : Int) : (s.setChannelValue c v).geo = s.geo := rfl
@[simp] theorem State.setChannelValue_gov (c : Channel) (v : Int) : (s.setChannelValue c v).gov = s.gov := rfl
@[simp] theorem State.setChannelValue_grid (c : Channel) (v : Int) : (s.setChannelValue c v).grid = s.grid := rfl
@[simp] theorem State.setChannelValue_load (c : Channel) (v : Int) : (s.setChannelValue c v).load = s.load := rfl
@[simp] theorem State.setChannelValue_prot (c : Channel) (v : Int) : (s.setChannelValue c v).prot = s.prot := rfl
@[simp] theorem State.setChannelValue_reports (c : Channel) (v : Int) :
    (s.setChannelValue c v).reports = s.reports :=
  rfl
@[simp] theorem State.setChannelValue_pending (c : Channel) (v : Int) :
    (s.setChannelValue c v).pending = s.pending :=
  rfl

@[simp] theorem State.returnChannel_pins (c : Channel) : (s.returnChannel c).pins = s.pins := rfl
@[simp] theorem State.returnChannel_station (c : Channel) : (s.returnChannel c).station = s.station := rfl
@[simp] theorem State.returnChannel_bus (c : Channel) : (s.returnChannel c).bus = s.bus := rfl
@[simp] theorem State.returnChannel_counters (c : Channel) : (s.returnChannel c).counters = s.counters := rfl
@[simp] theorem State.returnChannel_peers (c : Channel) : (s.returnChannel c).peers = s.peers := rfl
@[simp] theorem State.returnChannel_geo (c : Channel) : (s.returnChannel c).geo = s.geo := rfl
@[simp] theorem State.returnChannel_gov (c : Channel) : (s.returnChannel c).gov = s.gov := rfl
@[simp] theorem State.returnChannel_grid (c : Channel) : (s.returnChannel c).grid = s.grid := rfl
@[simp] theorem State.returnChannel_load (c : Channel) : (s.returnChannel c).load = s.load := rfl
@[simp] theorem State.returnChannel_prot (c : Channel) : (s.returnChannel c).prot = s.prot := rfl
@[simp] theorem State.returnChannel_reports (c : Channel) : (s.returnChannel c).reports = s.reports := rfl
@[simp] theorem State.returnChannel_pending (c : Channel) : (s.returnChannel c).pending = s.pending := rfl

@[simp] theorem State.refresh_pins (c : ProtClass) (ch : Option Channel) : (s.refresh c ch).pins = s.pins := rfl
@[simp] theorem State.refresh_station (c : ProtClass) (ch : Option Channel) :
    (s.refresh c ch).station = s.station :=
  rfl
@[simp] theorem State.refresh_bus (c : ProtClass) (ch : Option Channel) : (s.refresh c ch).bus = s.bus := rfl
@[simp] theorem State.refresh_counters (c : ProtClass) (ch : Option Channel) :
    (s.refresh c ch).counters = s.counters :=
  rfl
@[simp] theorem State.refresh_peers (c : ProtClass) (ch : Option Channel) : (s.refresh c ch).peers = s.peers :=
  rfl
@[simp] theorem State.refresh_meas (c : ProtClass) (ch : Option Channel) : (s.refresh c ch).meas = s.meas := rfl
@[simp] theorem State.refresh_geo (c : ProtClass) (ch : Option Channel) : (s.refresh c ch).geo = s.geo := rfl
@[simp] theorem State.refresh_gov (c : ProtClass) (ch : Option Channel) : (s.refresh c ch).gov = s.gov := rfl
@[simp] theorem State.refresh_grid (c : ProtClass) (ch : Option Channel) : (s.refresh c ch).grid = s.grid := rfl
@[simp] theorem State.refresh_load (c : ProtClass) (ch : Option Channel) : (s.refresh c ch).load = s.load := rfl
@[simp] theorem State.refresh_reports (c : ProtClass) (ch : Option Channel) :
    (s.refresh c ch).reports = s.reports :=
  rfl
@[simp] theorem State.refresh_pending (c : ProtClass) (ch : Option Channel) :
    (s.refresh c ch).pending = s.pending :=
  rfl

@[simp] theorem State.withdraw_pins (c : ProtClass) : (s.withdraw c).pins = s.pins := rfl
@[simp] theorem State.withdraw_station (c : ProtClass) : (s.withdraw c).station = s.station := rfl
@[simp] theorem State.withdraw_bus (c : ProtClass) : (s.withdraw c).bus = s.bus := rfl
@[simp] theorem State.withdraw_counters (c : ProtClass) : (s.withdraw c).counters = s.counters := rfl
@[simp] theorem State.withdraw_peers (c : ProtClass) : (s.withdraw c).peers = s.peers := rfl
@[simp] theorem State.withdraw_meas (c : ProtClass) : (s.withdraw c).meas = s.meas := rfl
@[simp] theorem State.withdraw_geo (c : ProtClass) : (s.withdraw c).geo = s.geo := rfl
@[simp] theorem State.withdraw_gov (c : ProtClass) : (s.withdraw c).gov = s.gov := rfl
@[simp] theorem State.withdraw_grid (c : ProtClass) : (s.withdraw c).grid = s.grid := rfl
@[simp] theorem State.withdraw_load (c : ProtClass) : (s.withdraw c).load = s.load := rfl
@[simp] theorem State.withdraw_reports (c : ProtClass) : (s.withdraw c).reports = s.reports := rfl
@[simp] theorem State.withdraw_pending (c : ProtClass) : (s.withdraw c).pending = s.pending := rfl

@[simp] theorem State.enterRun_pins : s.enterRun.pins = s.pins := rfl
@[simp] theorem State.enterRun_bus : s.enterRun.bus = s.bus := rfl
@[simp] theorem State.enterRun_counters : s.enterRun.counters = s.counters := rfl
@[simp] theorem State.enterRun_peers : s.enterRun.peers = s.peers := rfl
@[simp] theorem State.enterRun_meas : s.enterRun.meas = s.meas := rfl
@[simp] theorem State.enterRun_geo : s.enterRun.geo = s.geo := rfl
@[simp] theorem State.enterRun_grid : s.enterRun.grid = s.grid := rfl
@[simp] theorem State.enterRun_load : s.enterRun.load = s.load := rfl
@[simp] theorem State.enterRun_prot : s.enterRun.prot = s.prot := rfl
@[simp] theorem State.enterRun_reports : s.enterRun.reports = s.reports := rfl
@[simp] theorem State.enterRun_pending : s.enterRun.pending = s.pending := rfl

@[simp] theorem State.showFaultLine_station (b : Bool) : (s.showFaultLine b).station = s.station := rfl
@[simp] theorem State.showFaultLine_bus (b : Bool) : (s.showFaultLine b).bus = s.bus := rfl
@[simp] theorem State.showFaultLine_counters (b : Bool) : (s.showFaultLine b).counters = s.counters := rfl
@[simp] theorem State.showFaultLine_peers (b : Bool) : (s.showFaultLine b).peers = s.peers := rfl
@[simp] theorem State.showFaultLine_meas (b : Bool) : (s.showFaultLine b).meas = s.meas := rfl
@[simp] theorem State.showFaultLine_geo (b : Bool) : (s.showFaultLine b).geo = s.geo := rfl
@[simp] theorem State.showFaultLine_gov (b : Bool) : (s.showFaultLine b).gov = s.gov := rfl
@[simp] theorem State.showFaultLine_grid (b : Bool) : (s.showFaultLine b).grid = s.grid := rfl
@[simp] theorem State.showFaultLine_load (b : Bool) : (s.showFaultLine b).load = s.load := rfl
@[simp] theorem State.showFaultLine_prot (b : Bool) : (s.showFaultLine b).prot = s.prot := rfl
@[simp] theorem State.showFaultLine_reports (b : Bool) : (s.showFaultLine b).reports = s.reports := rfl
@[simp] theorem State.showFaultLine_pending (b : Bool) : (s.showFaultLine b).pending = s.pending := rfl

@[simp] theorem State.isolate_pins (r : IsolationReason) : (s.isolate r).pins = s.pins := rfl
@[simp] theorem State.isolate_counters (r : IsolationReason) : (s.isolate r).counters = s.counters := rfl
@[simp] theorem State.isolate_geo (r : IsolationReason) : (s.isolate r).geo = s.geo := rfl
@[simp] theorem State.isolate_grid (r : IsolationReason) : (s.isolate r).grid = s.grid := rfl
@[simp] theorem State.isolate_load (r : IsolationReason) : (s.isolate r).load = s.load := rfl
@[simp] theorem State.isolate_prot (r : IsolationReason) : (s.isolate r).prot = s.prot := rfl
@[simp] theorem State.isolate_reports (r : IsolationReason) : (s.isolate r).reports = s.reports := rfl
@[simp] theorem State.isolate_pending (r : IsolationReason) : (s.isolate r).pending = s.pending := rfl

@[simp] theorem State.startSelfCheck_pins : s.startSelfCheck.pins = s.pins := rfl
@[simp] theorem State.startSelfCheck_station : s.startSelfCheck.station = s.station := rfl
@[simp] theorem State.startSelfCheck_counters : s.startSelfCheck.counters = s.counters := rfl
@[simp] theorem State.startSelfCheck_peers : s.startSelfCheck.peers = s.peers := rfl
@[simp] theorem State.startSelfCheck_meas : s.startSelfCheck.meas = s.meas := rfl
@[simp] theorem State.startSelfCheck_geo : s.startSelfCheck.geo = s.geo := rfl
@[simp] theorem State.startSelfCheck_gov : s.startSelfCheck.gov = s.gov := rfl
@[simp] theorem State.startSelfCheck_grid : s.startSelfCheck.grid = s.grid := rfl
@[simp] theorem State.startSelfCheck_load : s.startSelfCheck.load = s.load := rfl
@[simp] theorem State.startSelfCheck_prot : s.startSelfCheck.prot = s.prot := rfl
@[simp] theorem State.startSelfCheck_reports : s.startSelfCheck.reports = s.reports := rfl
@[simp] theorem State.startSelfCheck_pending : s.startSelfCheck.pending = s.pending := rfl

@[simp] theorem State.classifyPayload_pins : s.classifyPayload.pins = s.pins := rfl
@[simp] theorem State.classifyPayload_station : s.classifyPayload.station = s.station := rfl
@[simp] theorem State.classifyPayload_bus : s.classifyPayload.bus = s.bus := rfl
@[simp] theorem State.classifyPayload_counters : s.classifyPayload.counters = s.counters := rfl
@[simp] theorem State.classifyPayload_peers : s.classifyPayload.peers = s.peers := rfl
@[simp] theorem State.classifyPayload_meas : s.classifyPayload.meas = s.meas := rfl
@[simp] theorem State.classifyPayload_geo : s.classifyPayload.geo = s.geo := rfl
@[simp] theorem State.classifyPayload_gov : s.classifyPayload.gov = s.gov := rfl
@[simp] theorem State.classifyPayload_grid : s.classifyPayload.grid = s.grid := rfl
@[simp] theorem State.classifyPayload_prot : s.classifyPayload.prot = s.prot := rfl
@[simp] theorem State.classifyPayload_reports : s.classifyPayload.reports = s.reports := rfl
@[simp] theorem State.classifyPayload_pending : s.classifyPayload.pending = s.pending := rfl

@[simp] theorem State.recomputeGeometry_pins : s.recomputeGeometry.pins = s.pins := rfl
@[simp] theorem State.recomputeGeometry_station : s.recomputeGeometry.station = s.station := rfl
@[simp] theorem State.recomputeGeometry_bus : s.recomputeGeometry.bus = s.bus := rfl
@[simp] theorem State.recomputeGeometry_counters : s.recomputeGeometry.counters = s.counters := rfl
@[simp] theorem State.recomputeGeometry_peers : s.recomputeGeometry.peers = s.peers := rfl
@[simp] theorem State.recomputeGeometry_meas : s.recomputeGeometry.meas = s.meas := rfl
@[simp] theorem State.recomputeGeometry_gov : s.recomputeGeometry.gov = s.gov := rfl
@[simp] theorem State.recomputeGeometry_grid : s.recomputeGeometry.grid = s.grid := rfl
@[simp] theorem State.recomputeGeometry_load : s.recomputeGeometry.load = s.load := rfl
@[simp] theorem State.recomputeGeometry_prot : s.recomputeGeometry.prot = s.prot := rfl
@[simp] theorem State.recomputeGeometry_reports : s.recomputeGeometry.reports = s.reports := rfl
@[simp] theorem State.recomputeGeometry_pending : s.recomputeGeometry.pending = s.pending := rfl

@[simp] theorem State.abandonOperations_pins : s.abandonOperations.pins = s.pins := rfl
@[simp] theorem State.abandonOperations_station : s.abandonOperations.station = s.station := rfl
@[simp] theorem State.abandonOperations_counters : s.abandonOperations.counters = s.counters := rfl
@[simp] theorem State.abandonOperations_geo : s.abandonOperations.geo = s.geo := rfl
@[simp] theorem State.abandonOperations_load : s.abandonOperations.load = s.load := rfl
@[simp] theorem State.abandonOperations_prot : s.abandonOperations.prot = s.prot := rfl
@[simp] theorem State.abandonOperations_reports : s.abandonOperations.reports = s.reports := rfl
@[simp] theorem State.abandonOperations_pending : s.abandonOperations.pending = s.pending := rfl

@[simp] theorem State.warmValues_pins : s.warmValues.pins = s.pins := rfl
@[simp] theorem State.warmValues_counters : s.warmValues.counters = s.counters := rfl
@[simp] theorem State.warmValues_meas : s.warmValues.meas = s.meas := rfl
@[simp] theorem State.warmValues_geo : s.warmValues.geo = s.geo := rfl
@[simp] theorem State.warmValues_reports : s.warmValues.reports = s.reports := rfl
@[simp] theorem State.warmValues_pending : s.warmValues.pending = s.pending := rfl

@[simp] theorem State.endReception_pins : s.endReception.pins = s.pins := rfl
@[simp] theorem State.endReception_station : s.endReception.station = s.station := rfl
@[simp] theorem State.endReception_counters : s.endReception.counters = s.counters := rfl
@[simp] theorem State.endReception_peers : s.endReception.peers = s.peers := rfl
@[simp] theorem State.endReception_meas : s.endReception.meas = s.meas := rfl
@[simp] theorem State.endReception_geo : s.endReception.geo = s.geo := rfl
@[simp] theorem State.endReception_gov : s.endReception.gov = s.gov := rfl
@[simp] theorem State.endReception_grid : s.endReception.grid = s.grid := rfl
@[simp] theorem State.endReception_load : s.endReception.load = s.load := rfl
@[simp] theorem State.endReception_prot : s.endReception.prot = s.prot := rfl
@[simp] theorem State.endReception_reports : s.endReception.reports = s.reports := rfl
@[simp] theorem State.endReception_pending : s.endReception.pending = s.pending := rfl

@[simp] theorem State.idleFor_pins (n : Nat) : (s.idleFor n).pins = s.pins := rfl
@[simp] theorem State.idleFor_station (n : Nat) : (s.idleFor n).station = s.station := rfl
@[simp] theorem State.idleFor_counters (n : Nat) : (s.idleFor n).counters = s.counters := rfl
@[simp] theorem State.idleFor_peers (n : Nat) : (s.idleFor n).peers = s.peers := rfl
@[simp] theorem State.idleFor_meas (n : Nat) : (s.idleFor n).meas = s.meas := rfl
@[simp] theorem State.idleFor_geo (n : Nat) : (s.idleFor n).geo = s.geo := rfl
@[simp] theorem State.idleFor_gov (n : Nat) : (s.idleFor n).gov = s.gov := rfl
@[simp] theorem State.idleFor_grid (n : Nat) : (s.idleFor n).grid = s.grid := rfl
@[simp] theorem State.idleFor_load (n : Nat) : (s.idleFor n).load = s.load := rfl
@[simp] theorem State.idleFor_prot (n : Nat) : (s.idleFor n).prot = s.prot := rfl
@[simp] theorem State.idleFor_reports (n : Nat) : (s.idleFor n).reports = s.reports := rfl
@[simp] theorem State.idleFor_pending (n : Nat) : (s.idleFor n).pending = s.pending := rfl

@[simp] theorem State.afterPost_pins (levels : List Bool) (whole : Bool) :
    (s.afterPost levels whole).pins = s.pins :=
  rfl
@[simp] theorem State.afterPost_station (levels : List Bool) (whole : Bool) :
    (s.afterPost levels whole).station = s.station :=
  rfl
@[simp] theorem State.afterPost_counters (levels : List Bool) (whole : Bool) :
    (s.afterPost levels whole).counters = s.counters :=
  rfl
@[simp] theorem State.afterPost_peers (levels : List Bool) (whole : Bool) :
    (s.afterPost levels whole).peers = s.peers :=
  rfl
@[simp] theorem State.afterPost_meas (levels : List Bool) (whole : Bool) :
    (s.afterPost levels whole).meas = s.meas :=
  rfl
@[simp] theorem State.afterPost_geo (levels : List Bool) (whole : Bool) :
    (s.afterPost levels whole).geo = s.geo :=
  rfl
@[simp] theorem State.afterPost_gov (levels : List Bool) (whole : Bool) :
    (s.afterPost levels whole).gov = s.gov :=
  rfl
@[simp] theorem State.afterPost_grid (levels : List Bool) (whole : Bool) :
    (s.afterPost levels whole).grid = s.grid :=
  rfl
@[simp] theorem State.afterPost_load (levels : List Bool) (whole : Bool) :
    (s.afterPost levels whole).load = s.load :=
  rfl
@[simp] theorem State.afterPost_prot (levels : List Bool) (whole : Bool) :
    (s.afterPost levels whole).prot = s.prot :=
  rfl
@[simp] theorem State.afterPost_reports (levels : List Bool) (whole : Bool) :
    (s.afterPost levels whole).reports = s.reports :=
  rfl
@[simp] theorem State.afterPost_pending (levels : List Bool) (whole : Bool) :
    (s.afterPost levels whole).pending = s.pending :=
  rfl

/-- What idle time changes (R1, R16): the idle time and whether the receiver looks for a start symbol, no more. -/
theorem State.idleFor_bus (n : Nat) : (s.idleFor n).bus =
    { s.bus with idleTime := (s.idleFor n).bus.idleTime, looking := (s.idleFor n).bus.looking } := by
  unfold State.idleFor; split <;> rfl
@[simp] theorem State.idleFor_tx (n : Nat) : (s.idleFor n).bus.tx = s.bus.tx := by rw [State.idleFor_bus]
@[simp] theorem State.idleFor_urgent (n : Nat) : (s.idleFor n).bus.urgent = s.bus.urgent := by
  rw [State.idleFor_bus]
@[simp] theorem State.idleFor_stateSlot (n : Nat) : (s.idleFor n).bus.stateSlot = s.bus.stateSlot := by
  rw [State.idleFor_bus]
@[simp] theorem State.idleFor_reportSlot (n : Nat) : (s.idleFor n).bus.reportSlot = s.bus.reportSlot := by
  rw [State.idleFor_bus]
@[simp] theorem State.idleFor_seq (n : Nat) : (s.idleFor n).bus.seq = s.bus.seq := by rw [State.idleFor_bus]
@[simp] theorem State.idleFor_consecutive (n : Nat) : (s.idleFor n).bus.consecutive = s.bus.consecutive := by
  rw [State.idleFor_bus]
@[simp] theorem State.idleFor_rx (n : Nat) : (s.idleFor n).bus.rx = s.bus.rx := by rw [State.idleFor_bus]
@[simp] theorem State.idleFor_receiving (n : Nat) : (s.idleFor n).bus.receiving = s.bus.receiving := by
  rw [State.idleFor_bus]
@[simp] theorem State.idleFor_lineHeld (n : Nat) : (s.idleFor n).bus.lineHeld = s.bus.lineHeld := by
  rw [State.idleFor_bus]
@[simp] theorem State.idleFor_loopback (n : Nat) : (s.idleFor n).bus.loopback = s.bus.loopback := by
  rw [State.idleFor_bus]
@[simp] theorem State.idleFor_driving (n : Nat) : (s.idleFor n).driving = s.driving := by
  simp [State.driving]

/-- One bit-time of looping changes no post and does not stop the looping (R20). -/
@[simp] theorem Loopback.tick_postA (l : Loopback) : l.tick.postA = l.postA := by
  unfold Loopback.tick; split <;> (try split) <;> rfl
@[simp] theorem Loopback.tick_postB (l : Loopback) : l.tick.postB = l.postB := by
  unfold Loopback.tick; split <;> (try split) <;> rfl
@[simp] theorem Loopback.tick_looping (l : Loopback) : l.tick.looping = l.looping := by
  unfold Loopback.tick; split <;> (try split) <;> rfl

@[simp] theorem State.beginAttempt_pins (b : Body) (n : Nat) : (s.beginAttempt b n).pins = s.pins := rfl
@[simp] theorem State.beginAttempt_station (b : Body) (n : Nat) : (s.beginAttempt b n).station = s.station := rfl
@[simp] theorem State.beginAttempt_counters (b : Body) (n : Nat) : (s.beginAttempt b n).counters = s.counters :=
  rfl
@[simp] theorem State.beginAttempt_peers (b : Body) (n : Nat) : (s.beginAttempt b n).peers = s.peers := rfl
@[simp] theorem State.beginAttempt_meas (b : Body) (n : Nat) : (s.beginAttempt b n).meas = s.meas := rfl
@[simp] theorem State.beginAttempt_geo (b : Body) (n : Nat) : (s.beginAttempt b n).geo = s.geo := rfl
@[simp] theorem State.beginAttempt_gov (b : Body) (n : Nat) : (s.beginAttempt b n).gov = s.gov := rfl
@[simp] theorem State.beginAttempt_grid (b : Body) (n : Nat) : (s.beginAttempt b n).grid = s.grid := rfl
@[simp] theorem State.beginAttempt_load (b : Body) (n : Nat) : (s.beginAttempt b n).load = s.load := rfl
@[simp] theorem State.beginAttempt_prot (b : Body) (n : Nat) : (s.beginAttempt b n).prot = s.prot := rfl
@[simp] theorem State.beginAttempt_reports (b : Body) (n : Nat) : (s.beginAttempt b n).reports = s.reports := rfl
@[simp] theorem State.beginAttempt_pending (b : Body) (n : Nat) : (s.beginAttempt b n).pending = s.pending := rfl

@[simp] theorem State.freeAbsorber_pins : s.freeAbsorber.pins = s.pins := rfl
@[simp] theorem State.freeAbsorber_station : s.freeAbsorber.station = s.station := rfl
@[simp] theorem State.freeAbsorber_bus : s.freeAbsorber.bus = s.bus := rfl
@[simp] theorem State.freeAbsorber_counters : s.freeAbsorber.counters = s.counters := rfl
@[simp] theorem State.freeAbsorber_meas : s.freeAbsorber.meas = s.meas := rfl
@[simp] theorem State.freeAbsorber_geo : s.freeAbsorber.geo = s.geo := rfl
@[simp] theorem State.freeAbsorber_gov : s.freeAbsorber.gov = s.gov := rfl
@[simp] theorem State.freeAbsorber_grid : s.freeAbsorber.grid = s.grid := rfl
@[simp] theorem State.freeAbsorber_load : s.freeAbsorber.load = s.load := rfl
@[simp] theorem State.freeAbsorber_prot : s.freeAbsorber.prot = s.prot := rfl
@[simp] theorem State.freeAbsorber_reports : s.freeAbsorber.reports = s.reports := rfl
@[simp] theorem State.freeAbsorber_pending : s.freeAbsorber.pending = s.pending := rfl

@[simp] theorem State.acceptPost_pins (p : Post) : (s.acceptPost p).pins = s.pins := rfl
@[simp] theorem State.acceptPost_station (p : Post) : (s.acceptPost p).station = s.station := rfl
@[simp] theorem State.acceptPost_bus (p : Post) : (s.acceptPost p).bus = s.bus := rfl
@[simp] theorem State.acceptPost_counters (p : Post) : (s.acceptPost p).counters = s.counters := rfl
@[simp] theorem State.acceptPost_meas (p : Post) : (s.acceptPost p).meas = s.meas := rfl
@[simp] theorem State.acceptPost_geo (p : Post) : (s.acceptPost p).geo = s.geo := rfl
@[simp] theorem State.acceptPost_gov (p : Post) : (s.acceptPost p).gov = s.gov := rfl
@[simp] theorem State.acceptPost_grid (p : Post) : (s.acceptPost p).grid = s.grid := rfl
@[simp] theorem State.acceptPost_load (p : Post) : (s.acceptPost p).load = s.load := rfl
@[simp] theorem State.acceptPost_prot (p : Post) : (s.acceptPost p).prot = s.prot := rfl
@[simp] theorem State.acceptPost_reports (p : Post) : (s.acceptPost p).reports = s.reports := rfl
@[simp] theorem State.acceptPost_pending (p : Post) : (s.acceptPost p).pending = s.pending := rfl

@[simp] theorem State.handHold_pins (h : Bool) : (s.handHold h).pins = s.pins := rfl
@[simp] theorem State.handHold_station (h : Bool) : (s.handHold h).station = s.station := rfl
@[simp] theorem State.handHold_bus (h : Bool) : (s.handHold h).bus = s.bus := rfl
@[simp] theorem State.handHold_counters (h : Bool) : (s.handHold h).counters = s.counters := rfl
@[simp] theorem State.handHold_peers (h : Bool) : (s.handHold h).peers = s.peers := rfl
@[simp] theorem State.handHold_meas (h : Bool) : (s.handHold h).meas = s.meas := rfl
@[simp] theorem State.handHold_geo (h : Bool) : (s.handHold h).geo = s.geo := rfl
@[simp] theorem State.handHold_grid (h : Bool) : (s.handHold h).grid = s.grid := rfl
@[simp] theorem State.handHold_load (h : Bool) : (s.handHold h).load = s.load := rfl
@[simp] theorem State.handHold_prot (h : Bool) : (s.handHold h).prot = s.prot := rfl
@[simp] theorem State.handHold_reports (h : Bool) : (s.handHold h).reports = s.reports := rfl
@[simp] theorem State.handHold_pending (h : Bool) : (s.handHold h).pending = s.pending := rfl

@[simp] theorem State.answerQuery_pins (p : Page) (n : Nat) : (s.answerQuery p n).pins = s.pins := rfl
@[simp] theorem State.answerQuery_station (p : Page) (n : Nat) : (s.answerQuery p n).station = s.station := rfl
@[simp] theorem State.answerQuery_counters (p : Page) (n : Nat) : (s.answerQuery p n).counters = s.counters := rfl
@[simp] theorem State.answerQuery_peers (p : Page) (n : Nat) : (s.answerQuery p n).peers = s.peers := rfl
@[simp] theorem State.answerQuery_meas (p : Page) (n : Nat) : (s.answerQuery p n).meas = s.meas := rfl
@[simp] theorem State.answerQuery_geo (p : Page) (n : Nat) : (s.answerQuery p n).geo = s.geo := rfl
@[simp] theorem State.answerQuery_gov (p : Page) (n : Nat) : (s.answerQuery p n).gov = s.gov := rfl
@[simp] theorem State.answerQuery_grid (p : Page) (n : Nat) : (s.answerQuery p n).grid = s.grid := rfl
@[simp] theorem State.answerQuery_load (p : Page) (n : Nat) : (s.answerQuery p n).load = s.load := rfl
@[simp] theorem State.answerQuery_prot (p : Page) (n : Nat) : (s.answerQuery p n).prot = s.prot := rfl
@[simp] theorem State.answerQuery_reports (p : Page) (n : Nat) : (s.answerQuery p n).reports = s.reports := rfl
@[simp] theorem State.answerQuery_pending (p : Page) (n : Nat) : (s.answerQuery p n).pending = s.pending := rfl

@[simp] theorem State.agePeers_pins : s.agePeers.pins = s.pins := rfl
@[simp] theorem State.agePeers_station : s.agePeers.station = s.station := rfl
@[simp] theorem State.agePeers_bus : s.agePeers.bus = s.bus := rfl
@[simp] theorem State.agePeers_counters : s.agePeers.counters = s.counters := rfl
@[simp] theorem State.agePeers_meas : s.agePeers.meas = s.meas := rfl
@[simp] theorem State.agePeers_geo : s.agePeers.geo = s.geo := rfl
@[simp] theorem State.agePeers_gov : s.agePeers.gov = s.gov := rfl
@[simp] theorem State.agePeers_grid : s.agePeers.grid = s.grid := rfl
@[simp] theorem State.agePeers_load : s.agePeers.load = s.load := rfl
@[simp] theorem State.agePeers_prot : s.agePeers.prot = s.prot := rfl
@[simp] theorem State.agePeers_reports : s.agePeers.reports = s.reports := rfl
@[simp] theorem State.agePeers_pending : s.agePeers.pending = s.pending := rfl

@[simp] theorem State.refreshRef_pins : s.refreshRef.pins = s.pins := rfl
@[simp] theorem State.refreshRef_station : s.refreshRef.station = s.station := rfl
@[simp] theorem State.refreshRef_bus : s.refreshRef.bus = s.bus := rfl
@[simp] theorem State.refreshRef_counters : s.refreshRef.counters = s.counters := rfl
@[simp] theorem State.refreshRef_peers : s.refreshRef.peers = s.peers := rfl
@[simp] theorem State.refreshRef_meas : s.refreshRef.meas = s.meas := rfl
@[simp] theorem State.refreshRef_geo : s.refreshRef.geo = s.geo := rfl
@[simp] theorem State.refreshRef_grid : s.refreshRef.grid = s.grid := rfl
@[simp] theorem State.refreshRef_load : s.refreshRef.load = s.load := rfl
@[simp] theorem State.refreshRef_prot : s.refreshRef.prot = s.prot := rfl
@[simp] theorem State.refreshRef_reports : s.refreshRef.reports = s.reports := rfl
@[simp] theorem State.refreshRef_pending : s.refreshRef.pending = s.pending := rfl

@[simp] theorem State.setAccumulator_pins (a : Nat) : (s.setAccumulator a).pins = s.pins := rfl
@[simp] theorem State.setAccumulator_station (a : Nat) : (s.setAccumulator a).station = s.station := rfl
@[simp] theorem State.setAccumulator_bus (a : Nat) : (s.setAccumulator a).bus = s.bus := rfl
@[simp] theorem State.setAccumulator_counters (a : Nat) : (s.setAccumulator a).counters = s.counters := rfl
@[simp] theorem State.setAccumulator_peers (a : Nat) : (s.setAccumulator a).peers = s.peers := rfl
@[simp] theorem State.setAccumulator_meas (a : Nat) : (s.setAccumulator a).meas = s.meas := rfl
@[simp] theorem State.setAccumulator_geo (a : Nat) : (s.setAccumulator a).geo = s.geo := rfl
@[simp] theorem State.setAccumulator_gov (a : Nat) : (s.setAccumulator a).gov = s.gov := rfl
@[simp] theorem State.setAccumulator_grid (a : Nat) : (s.setAccumulator a).grid = s.grid := rfl
@[simp] theorem State.setAccumulator_prot (a : Nat) : (s.setAccumulator a).prot = s.prot := rfl
@[simp] theorem State.setAccumulator_reports (a : Nat) : (s.setAccumulator a).reports = s.reports := rfl
@[simp] theorem State.setAccumulator_pending (a : Nat) : (s.setAccumulator a).pending = s.pending := rfl

@[simp] theorem State.reloadControl_pins : s.reloadControl.pins = s.pins := rfl
@[simp] theorem State.reloadControl_station : s.reloadControl.station = s.station := rfl
@[simp] theorem State.reloadControl_bus : s.reloadControl.bus = s.bus := rfl
@[simp] theorem State.reloadControl_counters : s.reloadControl.counters = s.counters := rfl
@[simp] theorem State.reloadControl_peers : s.reloadControl.peers = s.peers := rfl
@[simp] theorem State.reloadControl_meas : s.reloadControl.meas = s.meas := rfl
@[simp] theorem State.reloadControl_geo : s.reloadControl.geo = s.geo := rfl
@[simp] theorem State.reloadControl_grid : s.reloadControl.grid = s.grid := rfl
@[simp] theorem State.reloadControl_load : s.reloadControl.load = s.load := rfl
@[simp] theorem State.reloadControl_prot : s.reloadControl.prot = s.prot := rfl
@[simp] theorem State.reloadControl_reports : s.reloadControl.reports = s.reports := rfl
@[simp] theorem State.reloadControl_pending : s.reloadControl.pending = s.pending := rfl

@[simp] theorem State.storeUpdate_pins (n : Snapshot) (u : UpdateResult) : (s.storeUpdate n u).pins = s.pins :=
  rfl
@[simp] theorem State.storeUpdate_station (n : Snapshot) (u : UpdateResult) :
    (s.storeUpdate n u).station = s.station :=
  rfl
@[simp] theorem State.storeUpdate_bus (n : Snapshot) (u : UpdateResult) : (s.storeUpdate n u).bus = s.bus := rfl
@[simp] theorem State.storeUpdate_counters (n : Snapshot) (u : UpdateResult) :
    (s.storeUpdate n u).counters = s.counters :=
  rfl
@[simp] theorem State.storeUpdate_peers (n : Snapshot) (u : UpdateResult) : (s.storeUpdate n u).peers = s.peers :=
  rfl
@[simp] theorem State.storeUpdate_meas (n : Snapshot) (u : UpdateResult) : (s.storeUpdate n u).meas = s.meas :=
  rfl
@[simp] theorem State.storeUpdate_geo (n : Snapshot) (u : UpdateResult) : (s.storeUpdate n u).geo = s.geo := rfl
@[simp] theorem State.storeUpdate_grid (n : Snapshot) (u : UpdateResult) : (s.storeUpdate n u).grid = s.grid :=
  rfl
@[simp] theorem State.storeUpdate_load (n : Snapshot) (u : UpdateResult) : (s.storeUpdate n u).load = s.load :=
  rfl
@[simp] theorem State.storeUpdate_prot (n : Snapshot) (u : UpdateResult) : (s.storeUpdate n u).prot = s.prot :=
  rfl
@[simp] theorem State.storeUpdate_reports (n : Snapshot) (u : UpdateResult) :
    (s.storeUpdate n u).reports = s.reports :=
  rfl
@[simp] theorem State.storeUpdate_pending (n : Snapshot) (u : UpdateResult) :
    (s.storeUpdate n u).pending = s.pending :=
  rfl

@[simp] theorem State.endUpdate_pins : s.endUpdate.pins = s.pins := rfl
@[simp] theorem State.endUpdate_station : s.endUpdate.station = s.station := rfl
@[simp] theorem State.endUpdate_bus : s.endUpdate.bus = s.bus := rfl
@[simp] theorem State.endUpdate_counters : s.endUpdate.counters = s.counters := rfl
@[simp] theorem State.endUpdate_peers : s.endUpdate.peers = s.peers := rfl
@[simp] theorem State.endUpdate_meas : s.endUpdate.meas = s.meas := rfl
@[simp] theorem State.endUpdate_geo : s.endUpdate.geo = s.geo := rfl
@[simp] theorem State.endUpdate_grid : s.endUpdate.grid = s.grid := rfl
@[simp] theorem State.endUpdate_load : s.endUpdate.load = s.load := rfl
@[simp] theorem State.endUpdate_prot : s.endUpdate.prot = s.prot := rfl
@[simp] theorem State.endUpdate_reports : s.endUpdate.reports = s.reports := rfl
@[simp] theorem State.endUpdate_pending : s.endUpdate.pending = s.pending := rfl

@[simp] theorem State.markFaulted_pins (c : Channel) : (s.markFaulted c).pins = s.pins := rfl
@[simp] theorem State.markFaulted_station (c : Channel) : (s.markFaulted c).station = s.station := rfl
@[simp] theorem State.markFaulted_bus (c : Channel) : (s.markFaulted c).bus = s.bus := rfl
@[simp] theorem State.markFaulted_counters (c : Channel) : (s.markFaulted c).counters = s.counters := rfl
@[simp] theorem State.markFaulted_peers (c : Channel) : (s.markFaulted c).peers = s.peers := rfl
@[simp] theorem State.markFaulted_geo (c : Channel) : (s.markFaulted c).geo = s.geo := rfl
@[simp] theorem State.markFaulted_gov (c : Channel) : (s.markFaulted c).gov = s.gov := rfl
@[simp] theorem State.markFaulted_grid (c : Channel) : (s.markFaulted c).grid = s.grid := rfl
@[simp] theorem State.markFaulted_load (c : Channel) : (s.markFaulted c).load = s.load := rfl
@[simp] theorem State.markFaulted_prot (c : Channel) : (s.markFaulted c).prot = s.prot := rfl
@[simp] theorem State.markFaulted_reports (c : Channel) : (s.markFaulted c).reports = s.reports := rfl
@[simp] theorem State.markFaulted_pending (c : Channel) : (s.markFaulted c).pending = s.pending := rfl

@[simp] theorem State.stepThermal_pins : s.stepThermal.pins = s.pins := rfl
@[simp] theorem State.stepThermal_station : s.stepThermal.station = s.station := rfl
@[simp] theorem State.stepThermal_bus : s.stepThermal.bus = s.bus := rfl
@[simp] theorem State.stepThermal_counters : s.stepThermal.counters = s.counters := rfl
@[simp] theorem State.stepThermal_peers : s.stepThermal.peers = s.peers := rfl
@[simp] theorem State.stepThermal_meas : s.stepThermal.meas = s.meas := rfl
@[simp] theorem State.stepThermal_geo : s.stepThermal.geo = s.geo := rfl
@[simp] theorem State.stepThermal_gov : s.stepThermal.gov = s.gov := rfl
@[simp] theorem State.stepThermal_load : s.stepThermal.load = s.load := rfl
@[simp] theorem State.stepThermal_prot : s.stepThermal.prot = s.prot := rfl
@[simp] theorem State.stepThermal_reports : s.stepThermal.reports = s.reports := rfl
@[simp] theorem State.stepThermal_pending : s.stepThermal.pending = s.pending := rfl

@[simp] theorem State.actOnStage_pins : s.actOnStage.pins = s.pins := rfl
@[simp] theorem State.actOnStage_station : s.actOnStage.station = s.station := rfl
@[simp] theorem State.actOnStage_bus : s.actOnStage.bus = s.bus := rfl
@[simp] theorem State.actOnStage_counters : s.actOnStage.counters = s.counters := rfl
@[simp] theorem State.actOnStage_peers : s.actOnStage.peers = s.peers := rfl
@[simp] theorem State.actOnStage_meas : s.actOnStage.meas = s.meas := rfl
@[simp] theorem State.actOnStage_geo : s.actOnStage.geo = s.geo := rfl
@[simp] theorem State.actOnStage_gov : s.actOnStage.gov = s.gov := rfl
@[simp] theorem State.actOnStage_load : s.actOnStage.load = s.load := rfl
@[simp] theorem State.actOnStage_prot : s.actOnStage.prot = s.prot := rfl
@[simp] theorem State.actOnStage_reports : s.actOnStage.reports = s.reports := rfl
@[simp] theorem State.actOnStage_pending : s.actOnStage.pending = s.pending := rfl

@[simp] theorem State.beginSuperframe_pins : s.beginSuperframe.pins = s.pins := rfl
@[simp] theorem State.beginSuperframe_station : s.beginSuperframe.station = s.station := rfl
@[simp] theorem State.beginSuperframe_bus : s.beginSuperframe.bus = s.bus := rfl
@[simp] theorem State.beginSuperframe_counters : s.beginSuperframe.counters = s.counters := rfl
@[simp] theorem State.beginSuperframe_peers : s.beginSuperframe.peers = s.peers := rfl
@[simp] theorem State.beginSuperframe_meas : s.beginSuperframe.meas = s.meas := rfl
@[simp] theorem State.beginSuperframe_geo : s.beginSuperframe.geo = s.geo := rfl
@[simp] theorem State.beginSuperframe_gov : s.beginSuperframe.gov = s.gov := rfl
@[simp] theorem State.beginSuperframe_load : s.beginSuperframe.load = s.load := rfl
@[simp] theorem State.beginSuperframe_prot : s.beginSuperframe.prot = s.prot := rfl
@[simp] theorem State.beginSuperframe_reports : s.beginSuperframe.reports = s.reports := rfl
@[simp] theorem State.beginSuperframe_pending : s.beginSuperframe.pending = s.pending := rfl

@[simp] theorem State.withPending_pins (q : List Instr) : (s.withPending q).pins = s.pins := rfl
@[simp] theorem State.withPending_station (q : List Instr) : (s.withPending q).station = s.station := rfl
@[simp] theorem State.withPending_bus (q : List Instr) : (s.withPending q).bus = s.bus := rfl
@[simp] theorem State.withPending_counters (q : List Instr) : (s.withPending q).counters = s.counters := rfl
@[simp] theorem State.withPending_peers (q : List Instr) : (s.withPending q).peers = s.peers := rfl
@[simp] theorem State.withPending_meas (q : List Instr) : (s.withPending q).meas = s.meas := rfl
@[simp] theorem State.withPending_geo (q : List Instr) : (s.withPending q).geo = s.geo := rfl
@[simp] theorem State.withPending_gov (q : List Instr) : (s.withPending q).gov = s.gov := rfl
@[simp] theorem State.withPending_grid (q : List Instr) : (s.withPending q).grid = s.grid := rfl
@[simp] theorem State.withPending_load (q : List Instr) : (s.withPending q).load = s.load := rfl
@[simp] theorem State.withPending_prot (q : List Instr) : (s.withPending q).prot = s.prot := rfl
@[simp] theorem State.withPending_reports (q : List Instr) : (s.withPending q).reports = s.reports := rfl

end Sys2Proof.Machine
end

