-- ==== Sys2Proof/Laws/Frames.lean ====
section
/-! SUPPORT. What each shared operation leaves alone, where the operation has cases: one lemma per operation and
field, so that no later proof splits an operation to see a field it does not touch. -/

namespace Sys2Proof.Machine

variable (s : State)

/-- A field that every turn of a fold leaves alone is left alone by the fold. -/
theorem foldl_keeps {α β : Type} (g : State → β) (f : State → α → State) (h : ∀ t x, g (f t x) = g t) (l : List α)
    (t : State) : g (l.foldl f t) = g t := by
  induction l generalizing t with
  | nil => rfl
  | cons x rest ih => simp [List.foldl_cons, ih, h]

@[simp] theorem State.offerUrgent_pins (b : Body) : (s.offerUrgent b).pins = s.pins := by
  unfold State.offerUrgent; (repeat' split) <;> rfl
@[simp] theorem State.offerUrgent_station (b : Body) : (s.offerUrgent b).station = s.station := by
  unfold State.offerUrgent; (repeat' split) <;> rfl
@[simp] theorem State.offerUrgent_peers (b : Body) : (s.offerUrgent b).peers = s.peers := by
  unfold State.offerUrgent; (repeat' split) <;> rfl
@[simp] theorem State.offerUrgent_meas (b : Body) : (s.offerUrgent b).meas = s.meas := by
  unfold State.offerUrgent; (repeat' split) <;> rfl
@[simp] theorem State.offerUrgent_geo (b : Body) : (s.offerUrgent b).geo = s.geo := by
  unfold State.offerUrgent; (repeat' split) <;> rfl
@[simp] theorem State.offerUrgent_gov (b : Body) : (s.offerUrgent b).gov = s.gov := by
  unfold State.offerUrgent; (repeat' split) <;> rfl
@[simp] theorem State.offerUrgent_grid (b : Body) : (s.offerUrgent b).grid = s.grid := by
  unfold State.offerUrgent; (repeat' split) <;> rfl
@[simp] theorem State.offerUrgent_load (b : Body) : (s.offerUrgent b).load = s.load := by
  unfold State.offerUrgent; (repeat' split) <;> rfl
@[simp] theorem State.offerUrgent_prot (b : Body) : (s.offerUrgent b).prot = s.prot := by
  unfold State.offerUrgent; (repeat' split) <;> rfl
@[simp] theorem State.offerUrgent_reports (b : Body) : (s.offerUrgent b).reports = s.reports := by
  unfold State.offerUrgent; (repeat' split) <;> rfl
@[simp] theorem State.offerUrgent_pending (b : Body) : (s.offerUrgent b).pending = s.pending := by
  unfold State.offerUrgent; (repeat' split) <;> rfl

@[simp] theorem State.alert_pins (k : AlertKind) (args : List Nat) : (s.alert k args).pins = s.pins := by
  simp [State.alert]
@[simp] theorem State.alert_station (k : AlertKind) (args : List Nat) : (s.alert k args).station = s.station := by
  simp [State.alert]
@[simp] theorem State.alert_peers (k : AlertKind) (args : List Nat) : (s.alert k args).peers = s.peers := by
  simp [State.alert]
@[simp] theorem State.alert_meas (k : AlertKind) (args : List Nat) : (s.alert k args).meas = s.meas := by
  simp [State.alert]
@[simp] theorem State.alert_geo (k : AlertKind) (args : List Nat) : (s.alert k args).geo = s.geo := by
  simp [State.alert]
@[simp] theorem State.alert_gov (k : AlertKind) (args : List Nat) : (s.alert k args).gov = s.gov := by
  simp [State.alert]
@[simp] theorem State.alert_grid (k : AlertKind) (args : List Nat) : (s.alert k args).grid = s.grid := by
  simp [State.alert]
@[simp] theorem State.alert_load (k : AlertKind) (args : List Nat) : (s.alert k args).load = s.load := by
  simp [State.alert]
@[simp] theorem State.alert_prot (k : AlertKind) (args : List Nat) : (s.alert k args).prot = s.prot := by
  simp [State.alert]
@[simp] theorem State.alert_reports (k : AlertKind) (args : List Nat) : (s.alert k args).reports = s.reports := by
  simp [State.alert]
@[simp] theorem State.alert_pending (k : AlertKind) (args : List Nat) : (s.alert k args).pending = s.pending := by
  simp [State.alert]

@[simp] theorem State.offerState_pins (b : Body) : (s.offerState b).pins = s.pins := by
  unfold State.offerState; split <;> rfl
@[simp] theorem State.offerState_station (b : Body) : (s.offerState b).station = s.station := by
  unfold State.offerState; split <;> rfl
@[simp] theorem State.offerState_peers (b : Body) : (s.offerState b).peers = s.peers := by
  unfold State.offerState; split <;> rfl
@[simp] theorem State.offerState_meas (b : Body) : (s.offerState b).meas = s.meas := by
  unfold State.offerState; split <;> rfl
@[simp] theorem State.offerState_geo (b : Body) : (s.offerState b).geo = s.geo := by
  unfold State.offerState; split <;> rfl
@[simp] theorem State.offerState_gov (b : Body) : (s.offerState b).gov = s.gov := by
  unfold State.offerState; split <;> rfl
@[simp] theorem State.offerState_grid (b : Body) : (s.offerState b).grid = s.grid := by
  unfold State.offerState; split <;> rfl
@[simp] theorem State.offerState_load (b : Body) : (s.offerState b).load = s.load := by
  unfold State.offerState; split <;> rfl
@[simp] theorem State.offerState_prot (b : Body) : (s.offerState b).prot = s.prot := by
  unfold State.offerState; split <;> rfl
@[simp] theorem State.offerState_reports (b : Body) : (s.offerState b).reports = s.reports := by
  unfold State.offerState; split <;> rfl
@[simp] theorem State.offerState_pending (b : Body) : (s.offerState b).pending = s.pending := by
  unfold State.offerState; split <;> rfl

@[simp] theorem State.joinRx_pins (e : RxEntry) : (s.joinRx e).pins = s.pins := by
  unfold State.joinRx; (repeat' split) <;> rfl
@[simp] theorem State.joinRx_station (e : RxEntry) : (s.joinRx e).station = s.station := by
  unfold State.joinRx; (repeat' split) <;> rfl
@[simp] theorem State.joinRx_peers (e : RxEntry) : (s.joinRx e).peers = s.peers := by
  unfold State.joinRx; (repeat' split) <;> rfl
@[simp] theorem State.joinRx_meas (e : RxEntry) : (s.joinRx e).meas = s.meas := by
  unfold State.joinRx; (repeat' split) <;> rfl
@[simp] theorem State.joinRx_geo (e : RxEntry) : (s.joinRx e).geo = s.geo := by
  unfold State.joinRx; (repeat' split) <;> rfl
@[simp] theorem State.joinRx_gov (e : RxEntry) : (s.joinRx e).gov = s.gov := by
  unfold State.joinRx; (repeat' split) <;> rfl
@[simp] theorem State.joinRx_grid (e : RxEntry) : (s.joinRx e).grid = s.grid := by
  unfold State.joinRx; (repeat' split) <;> rfl
@[simp] theorem State.joinRx_load (e : RxEntry) : (s.joinRx e).load = s.load := by
  unfold State.joinRx; (repeat' split) <;> rfl
@[simp] theorem State.joinRx_prot (e : RxEntry) : (s.joinRx e).prot = s.prot := by
  unfold State.joinRx; (repeat' split) <;> rfl
@[simp] theorem State.joinRx_reports (e : RxEntry) : (s.joinRx e).reports = s.reports := by
  unfold State.joinRx; (repeat' split) <;> rfl
@[simp] theorem State.joinRx_pending (e : RxEntry) : (s.joinRx e).pending = s.pending := by
  unfold State.joinRx; (repeat' split) <;> rfl

@[simp] theorem State.refuseOrder_pins : s.refuseOrder.pins = s.pins := rfl
@[simp] theorem State.refuseOrder_station : s.refuseOrder.station = s.station := rfl
@[simp] theorem State.refuseOrder_bus : s.refuseOrder.bus = s.bus := rfl
@[simp] theorem State.refuseOrder_peers : s.refuseOrder.peers = s.peers := rfl
@[simp] theorem State.refuseOrder_meas : s.refuseOrder.meas = s.meas := rfl
@[simp] theorem State.refuseOrder_geo : s.refuseOrder.geo = s.geo := rfl
@[simp] theorem State.refuseOrder_gov : s.refuseOrder.gov = s.gov := rfl
@[simp] theorem State.refuseOrder_grid : s.refuseOrder.grid = s.grid := rfl
@[simp] theorem State.refuseOrder_load : s.refuseOrder.load = s.load := rfl
@[simp] theorem State.refuseOrder_prot : s.refuseOrder.prot = s.prot := rfl
@[simp] theorem State.refuseOrder_reports : s.refuseOrder.reports = s.reports := rfl
@[simp] theorem State.refuseOrder_pending : s.refuseOrder.pending = s.pending := rfl

@[simp] theorem State.followWheel_pins : s.followWheel.pins = s.pins := by unfold State.followWheel; split <;> rfl
@[simp] theorem State.followWheel_station : s.followWheel.station = s.station := by
  unfold State.followWheel; split <;> rfl
@[simp] theorem State.followWheel_bus : s.followWheel.bus = s.bus := by unfold State.followWheel; split <;> rfl
@[simp] theorem State.followWheel_counters : s.followWheel.counters = s.counters := by
  unfold State.followWheel; split <;> rfl
@[simp] theorem State.followWheel_peers : s.followWheel.peers = s.peers := by
  unfold State.followWheel; split <;> rfl
@[simp] theorem State.followWheel_geo : s.followWheel.geo = s.geo := by unfold State.followWheel; split <;> rfl
@[simp] theorem State.followWheel_gov : s.followWheel.gov = s.gov := by unfold State.followWheel; split <;> rfl
@[simp] theorem State.followWheel_grid : s.followWheel.grid = s.grid := by unfold State.followWheel; split <;> rfl
@[simp] theorem State.followWheel_load : s.followWheel.load = s.load := by unfold State.followWheel; split <;> rfl
@[simp] theorem State.followWheel_prot : s.followWheel.prot = s.prot := by unfold State.followWheel; split <;> rfl
@[simp] theorem State.followWheel_reports : s.followWheel.reports = s.reports := by
  unfold State.followWheel; split <;> rfl
@[simp] theorem State.followWheel_pending : s.followWheel.pending = s.pending := by
  unfold State.followWheel; split <;> rfl

@[simp] theorem State.followTorque_pins : s.followTorque.pins = s.pins := by
  unfold State.followTorque; split <;> rfl
@[simp] theorem State.followTorque_station : s.followTorque.station = s.station := by
  unfold State.followTorque; split <;> rfl
@[simp] theorem State.followTorque_bus : s.followTorque.bus = s.bus := by unfold State.followTorque; split <;> rfl
@[simp] theorem State.followTorque_counters : s.followTorque.counters = s.counters := by
  unfold State.followTorque; split <;> rfl
@[simp] theorem State.followTorque_peers : s.followTorque.peers = s.peers := by
  unfold State.followTorque; split <;> rfl
@[simp] theorem State.followTorque_geo : s.followTorque.geo = s.geo := by unfold State.followTorque; split <;> rfl
@[simp] theorem State.followTorque_gov : s.followTorque.gov = s.gov := by unfold State.followTorque; split <;> rfl
@[simp] theorem State.followTorque_grid : s.followTorque.grid = s.grid := by
  unfold State.followTorque; split <;> rfl
@[simp] theorem State.followTorque_load : s.followTorque.load = s.load := by
  unfold State.followTorque; split <;> rfl
@[simp] theorem State.followTorque_prot : s.followTorque.prot = s.prot := by
  unfold State.followTorque; split <;> rfl
@[simp] theorem State.followTorque_reports : s.followTorque.reports = s.reports := by
  unfold State.followTorque; split <;> rfl
@[simp] theorem State.followTorque_pending : s.followTorque.pending = s.pending := by
  unfold State.followTorque; split <;> rfl

@[simp] theorem State.take_pins (c : ProtClass) : (s.take c).pins = s.pins := by unfold State.take; split <;> simp
@[simp] theorem State.take_station (c : ProtClass) : (s.take c).station = s.station := by
  unfold State.take; split <;> simp
@[simp] theorem State.take_peers (c : ProtClass) : (s.take c).peers = s.peers := by
  unfold State.take; split <;> simp
@[simp] theorem State.take_meas (c : ProtClass) : (s.take c).meas = s.meas := by unfold State.take; split <;> simp
@[simp] theorem State.take_geo (c : ProtClass) : (s.take c).geo = s.geo := by unfold State.take; split <;> simp
@[simp] theorem State.take_gov (c : ProtClass) : (s.take c).gov = s.gov := by unfold State.take; split <;> simp
@[simp] theorem State.take_grid (c : ProtClass) : (s.take c).grid = s.grid := by unfold State.take; split <;> simp
@[simp] theorem State.take_load (c : ProtClass) : (s.take c).load = s.load := by unfold State.take; split <;> simp
@[simp] theorem State.take_reports (c : ProtClass) : (s.take c).reports = s.reports := by
  unfold State.take; split <;> simp
@[simp] theorem State.take_pending (c : ProtClass) : (s.take c).pending = s.pending := by
  unfold State.take; split <;> simp

@[simp] theorem State.raiseWith_pins (f : Bool) (c : ProtClass) (ch : Option Channel) :
    (s.raiseWith f c ch).pins = s.pins :=
  by
  unfold State.raiseWith; (repeat' split) <;> simp
@[simp] theorem State.raiseWith_station (f : Bool) (c : ProtClass) (ch : Option Channel) :
    (s.raiseWith f c ch).station = s.station :=
  by
  unfold State.raiseWith; (repeat' split) <;> simp
@[simp] theorem State.raiseWith_peers (f : Bool) (c : ProtClass) (ch : Option Channel) :
    (s.raiseWith f c ch).peers = s.peers :=
  by
  unfold State.raiseWith; (repeat' split) <;> simp
@[simp] theorem State.raiseWith_meas (f : Bool) (c : ProtClass) (ch : Option Channel) :
    (s.raiseWith f c ch).meas = s.meas :=
  by
  unfold State.raiseWith; (repeat' split) <;> simp
@[simp] theorem State.raiseWith_geo (f : Bool) (c : ProtClass) (ch : Option Channel) :
    (s.raiseWith f c ch).geo = s.geo :=
  by
  unfold State.raiseWith; (repeat' split) <;> simp
@[simp] theorem State.raiseWith_gov (f : Bool) (c : ProtClass) (ch : Option Channel) :
    (s.raiseWith f c ch).gov = s.gov :=
  by
  unfold State.raiseWith; (repeat' split) <;> simp
@[simp] theorem State.raiseWith_grid (f : Bool) (c : ProtClass) (ch : Option Channel) :
    (s.raiseWith f c ch).grid = s.grid :=
  by
  unfold State.raiseWith; (repeat' split) <;> simp
@[simp] theorem State.raiseWith_load (f : Bool) (c : ProtClass) (ch : Option Channel) :
    (s.raiseWith f c ch).load = s.load :=
  by
  unfold State.raiseWith; (repeat' split) <;> simp
@[simp] theorem State.raiseWith_reports (f : Bool) (c : ProtClass) (ch : Option Channel) :
    (s.raiseWith f c ch).reports = s.reports :=
  by
  unfold State.raiseWith; (repeat' split) <;> simp
@[simp] theorem State.raiseWith_pending (f : Bool) (c : ProtClass) (ch : Option Channel) :
    (s.raiseWith f c ch).pending = s.pending :=
  by
  unfold State.raiseWith; (repeat' split) <;> simp

@[simp] theorem State.raise_pins (c : ProtClass) (ch : Option Channel) : (s.raise c ch).pins = s.pins := by
  unfold State.raise; split <;> simp
@[simp] theorem State.raise_station (c : ProtClass) (ch : Option Channel) : (s.raise c ch).station = s.station :=
  by
  unfold State.raise; split <;> simp
@[simp] theorem State.raise_peers (c : ProtClass) (ch : Option Channel) : (s.raise c ch).peers = s.peers := by
  unfold State.raise; split <;> simp
@[simp] theorem State.raise_meas (c : ProtClass) (ch : Option Channel) : (s.raise c ch).meas = s.meas := by
  unfold State.raise; split <;> simp
@[simp] theorem State.raise_geo (c : ProtClass) (ch : Option Channel) : (s.raise c ch).geo = s.geo := by
  unfold State.raise; split <;> simp
@[simp] theorem State.raise_gov (c : ProtClass) (ch : Option Channel) : (s.raise c ch).gov = s.gov := by
  unfold State.raise; split <;> simp
@[simp] theorem State.raise_grid (c : ProtClass) (ch : Option Channel) : (s.raise c ch).grid = s.grid := by
  unfold State.raise; split <;> simp
@[simp] theorem State.raise_load (c : ProtClass) (ch : Option Channel) : (s.raise c ch).load = s.load := by
  unfold State.raise; split <;> simp
@[simp] theorem State.raise_reports (c : ProtClass) (ch : Option Channel) : (s.raise c ch).reports = s.reports :=
  by
  unfold State.raise; split <;> simp
@[simp] theorem State.raise_pending (c : ProtClass) (ch : Option Channel) : (s.raise c ch).pending = s.pending :=
  by
  unfold State.raise; split <;> simp

@[simp] theorem State.judge_pins (c : ProtClass) (h : Bool) : (s.judge c h).pins = s.pins := by
  unfold State.judge; (repeat' split) <;> simp
@[simp] theorem State.judge_station (c : ProtClass) (h : Bool) : (s.judge c h).station = s.station := by
  unfold State.judge; (repeat' split) <;> simp
@[simp] theorem State.judge_peers (c : ProtClass) (h : Bool) : (s.judge c h).peers = s.peers := by
  unfold State.judge; (repeat' split) <;> simp
@[simp] theorem State.judge_meas (c : ProtClass) (h : Bool) : (s.judge c h).meas = s.meas := by
  unfold State.judge; (repeat' split) <;> simp
@[simp] theorem State.judge_geo (c : ProtClass) (h : Bool) : (s.judge c h).geo = s.geo := by
  unfold State.judge; (repeat' split) <;> simp
@[simp] theorem State.judge_gov (c : ProtClass) (h : Bool) : (s.judge c h).gov = s.gov := by
  unfold State.judge; (repeat' split) <;> simp
@[simp] theorem State.judge_grid (c : ProtClass) (h : Bool) : (s.judge c h).grid = s.grid := by
  unfold State.judge; (repeat' split) <;> simp
@[simp] theorem State.judge_load (c : ProtClass) (h : Bool) : (s.judge c h).load = s.load := by
  unfold State.judge; (repeat' split) <;> simp
@[simp] theorem State.judge_reports (c : ProtClass) (h : Bool) : (s.judge c h).reports = s.reports := by
  unfold State.judge; (repeat' split) <;> simp
@[simp] theorem State.judge_pending (c : ProtClass) (h : Bool) : (s.judge c h).pending = s.pending := by
  unfold State.judge; (repeat' split) <;> simp

@[simp] theorem State.receiveStop_pins : s.receiveStop.pins = s.pins := by
  unfold State.receiveStop; (repeat' split) <;> simp
@[simp] theorem State.receiveStop_station : s.receiveStop.station = s.station := by
  unfold State.receiveStop; (repeat' split) <;> simp
@[simp] theorem State.receiveStop_peers : s.receiveStop.peers = s.peers := by
  unfold State.receiveStop; (repeat' split) <;> simp
@[simp] theorem State.receiveStop_meas : s.receiveStop.meas = s.meas := by
  unfold State.receiveStop; (repeat' split) <;> simp
@[simp] theorem State.receiveStop_geo : s.receiveStop.geo = s.geo := by
  unfold State.receiveStop; (repeat' split) <;> simp
@[simp] theorem State.receiveStop_gov : s.receiveStop.gov = s.gov := by
  unfold State.receiveStop; (repeat' split) <;> simp
@[simp] theorem State.receiveStop_grid : s.receiveStop.grid = s.grid := by
  unfold State.receiveStop; (repeat' split) <;> simp
@[simp] theorem State.receiveStop_load : s.receiveStop.load = s.load := by
  unfold State.receiveStop; (repeat' split) <;> simp
@[simp] theorem State.receiveStop_reports : s.receiveStop.reports = s.reports := by
  unfold State.receiveStop; (repeat' split) <;> simp
@[simp] theorem State.receiveStop_pending : s.receiveStop.pending = s.pending := by
  unfold State.receiveStop; (repeat' split) <;> simp

@[simp] theorem State.promotePending_pins : s.promotePending.pins = s.pins := by
  unfold State.promotePending; (repeat' split) <;> simp
@[simp] theorem State.promotePending_station : s.promotePending.station = s.station := by
  unfold State.promotePending; (repeat' split) <;> simp
@[simp] theorem State.promotePending_peers : s.promotePending.peers = s.peers := by
  unfold State.promotePending; (repeat' split) <;> simp
@[simp] theorem State.promotePending_meas : s.promotePending.meas = s.meas := by
  unfold State.promotePending; (repeat' split) <;> simp
@[simp] theorem State.promotePending_geo : s.promotePending.geo = s.geo := by
  unfold State.promotePending; (repeat' split) <;> simp
@[simp] theorem State.promotePending_gov : s.promotePending.gov = s.gov := by
  unfold State.promotePending; (repeat' split) <;> simp
@[simp] theorem State.promotePending_grid : s.promotePending.grid = s.grid := by
  unfold State.promotePending; (repeat' split) <;> simp
@[simp] theorem State.promotePending_load : s.promotePending.load = s.load := by
  unfold State.promotePending; (repeat' split) <;> simp
@[simp] theorem State.promotePending_reports : s.promotePending.reports = s.reports := by
  unfold State.promotePending; (repeat' split) <;> simp
@[simp] theorem State.promotePending_pending : s.promotePending.pending = s.pending := by
  unfold State.promotePending; (repeat' split) <;> simp

@[simp] theorem State.departRun_pins (m : Mode) : (s.departRun m).pins = s.pins := by simp [State.departRun]
@[simp] theorem State.departRun_station (m : Mode) : (s.departRun m).station = s.station := by
  simp [State.departRun]
@[simp] theorem State.departRun_bus (m : Mode) : (s.departRun m).bus = s.bus := by simp [State.departRun]
@[simp] theorem State.departRun_counters (m : Mode) : (s.departRun m).counters = s.counters := by
  simp [State.departRun]
@[simp] theorem State.departRun_peers (m : Mode) : (s.departRun m).peers = s.peers := by simp [State.departRun]
@[simp] theorem State.departRun_geo (m : Mode) : (s.departRun m).geo = s.geo := by simp [State.departRun]
@[simp] theorem State.departRun_grid (m : Mode) : (s.departRun m).grid = s.grid := by simp [State.departRun]
@[simp] theorem State.departRun_load (m : Mode) : (s.departRun m).load = s.load := by simp [State.departRun]
@[simp] theorem State.departRun_reports (m : Mode) : (s.departRun m).reports = s.reports := by
  simp [State.departRun]
@[simp] theorem State.departRun_pending (m : Mode) : (s.departRun m).pending = s.pending := by
  simp [State.departRun]

@[simp] theorem State.trip_pins (c : TripCause) : (s.trip c).pins = s.pins := by unfold State.trip; split <;> simp
@[simp] theorem State.trip_peers (c : TripCause) : (s.trip c).peers = s.peers := by
  unfold State.trip; split <;> simp
@[simp] theorem State.trip_geo (c : TripCause) : (s.trip c).geo = s.geo := by unfold State.trip; split <;> simp
@[simp] theorem State.trip_grid (c : TripCause) : (s.trip c).grid = s.grid := by unfold State.trip; split <;> simp
@[simp] theorem State.trip_load (c : TripCause) : (s.trip c).load = s.load := by unfold State.trip; split <;> simp
@[simp] theorem State.trip_reports (c : TripCause) : (s.trip c).reports = s.reports := by
  unfold State.trip; split <;> simp
@[simp] theorem State.trip_pending (c : TripCause) : (s.trip c).pending = s.pending := by
  unfold State.trip; split <;> simp

@[simp] theorem State.receiveCause_pins (c : TripCause) : (s.receiveCause c).pins = s.pins := by
  unfold State.receiveCause; dsimp only; (repeat' split) <;> simp
@[simp] theorem State.receiveCause_peers (c : TripCause) : (s.receiveCause c).peers = s.peers := by
  unfold State.receiveCause; dsimp only; (repeat' split) <;> simp
@[simp] theorem State.receiveCause_geo (c : TripCause) : (s.receiveCause c).geo = s.geo := by
  unfold State.receiveCause; dsimp only; (repeat' split) <;> simp
@[simp] theorem State.receiveCause_grid (c : TripCause) : (s.receiveCause c).grid = s.grid := by
  unfold State.receiveCause; dsimp only; (repeat' split) <;> simp
@[simp] theorem State.receiveCause_load (c : TripCause) : (s.receiveCause c).load = s.load := by
  unfold State.receiveCause; dsimp only; (repeat' split) <;> simp
@[simp] theorem State.receiveCause_reports (c : TripCause) : (s.receiveCause c).reports = s.reports := by
  unfold State.receiveCause; dsimp only; (repeat' split) <;> simp
@[simp] theorem State.receiveCause_pending (c : TripCause) : (s.receiveCause c).pending = s.pending := by
  unfold State.receiveCause; dsimp only; (repeat' split) <;> simp

@[simp] theorem State.enterReady_pins : s.enterReady.pins = s.pins := by
  unfold State.enterReady; dsimp only; split <;> simp
@[simp] theorem State.enterReady_peers : s.enterReady.peers = s.peers := by
  unfold State.enterReady; dsimp only; split <;> simp
@[simp] theorem State.enterReady_geo : s.enterReady.geo = s.geo := by
  unfold State.enterReady; dsimp only; split <;> simp
@[simp] theorem State.enterReady_grid : s.enterReady.grid = s.grid := by
  unfold State.enterReady; dsimp only; split <;> simp
@[simp] theorem State.enterReady_load : s.enterReady.load = s.load := by
  unfold State.enterReady; dsimp only; split <;> simp
@[simp] theorem State.enterReady_reports : s.enterReady.reports = s.reports := by
  unfold State.enterReady; dsimp only; split <;> simp
@[simp] theorem State.enterReady_pending : s.enterReady.pending = s.pending := by
  unfold State.enterReady; dsimp only; split <;> simp

@[simp] theorem State.leaveListen_pins : s.leaveListen.pins = s.pins := by
  unfold State.leaveListen; (repeat' split) <;> simp
@[simp] theorem State.leaveListen_peers : s.leaveListen.peers = s.peers := by
  unfold State.leaveListen; (repeat' split) <;> simp
@[simp] theorem State.leaveListen_geo : s.leaveListen.geo = s.geo := by
  unfold State.leaveListen; (repeat' split) <;> simp
@[simp] theorem State.leaveListen_grid : s.leaveListen.grid = s.grid := by
  unfold State.leaveListen; (repeat' split) <;> simp
@[simp] theorem State.leaveListen_load : s.leaveListen.load = s.load := by
  unfold State.leaveListen; (repeat' split) <;> simp
@[simp] theorem State.leaveListen_reports : s.leaveListen.reports = s.reports := by
  unfold State.leaveListen; (repeat' split) <;> simp
@[simp] theorem State.leaveListen_pending : s.leaveListen.pending = s.pending := by
  unfold State.leaveListen; (repeat' split) <;> simp

@[simp] theorem State.report31_pins : s.report31.pins = s.pins := by
  unfold State.report31; dsimp only; (repeat' split) <;> simp
@[simp] theorem State.report31_station : s.report31.station = s.station := by
  unfold State.report31; dsimp only; (repeat' split) <;> simp
@[simp] theorem State.report31_peers : s.report31.peers = s.peers := by
  unfold State.report31; dsimp only; (repeat' split) <;> simp
@[simp] theorem State.report31_meas : s.report31.meas = s.meas := by
  unfold State.report31; dsimp only; (repeat' split) <;> simp
@[simp] theorem State.report31_geo : s.report31.geo = s.geo := by
  unfold State.report31; dsimp only; (repeat' split) <;> simp
@[simp] theorem State.report31_gov : s.report31.gov = s.gov := by
  unfold State.report31; dsimp only; (repeat' split) <;> simp
@[simp] theorem State.report31_grid : s.report31.grid = s.grid := by
  unfold State.report31; dsimp only; (repeat' split) <;> simp
@[simp] theorem State.report31_pending : s.report31.pending = s.pending := by
  unfold State.report31; dsimp only; (repeat' split) <;> simp

@[simp] theorem State.buildStatePost_pins : s.buildStatePost.pins = s.pins := by
  unfold State.buildStatePost; split <;> simp
@[simp] theorem State.buildStatePost_station : s.buildStatePost.station = s.station := by
  unfold State.buildStatePost; split <;> simp
@[simp] theorem State.buildStatePost_peers : s.buildStatePost.peers = s.peers := by
  unfold State.buildStatePost; split <;> simp
@[simp] theorem State.buildStatePost_meas : s.buildStatePost.meas = s.meas := by
  unfold State.buildStatePost; split <;> simp
@[simp] theorem State.buildStatePost_geo : s.buildStatePost.geo = s.geo := by
  unfold State.buildStatePost; split <;> simp
@[simp] theorem State.buildStatePost_gov : s.buildStatePost.gov = s.gov := by
  unfold State.buildStatePost; split <;> simp
@[simp] theorem State.buildStatePost_grid : s.buildStatePost.grid = s.grid := by
  unfold State.buildStatePost; split <;> simp
@[simp] theorem State.buildStatePost_load : s.buildStatePost.load = s.load := by
  unfold State.buildStatePost; split <;> simp
@[simp] theorem State.buildStatePost_prot : s.buildStatePost.prot = s.prot := by
  unfold State.buildStatePost; split <;> simp
@[simp] theorem State.buildStatePost_reports : s.buildStatePost.reports = s.reports := by
  unfold State.buildStatePost; split <;> simp
@[simp] theorem State.buildStatePost_pending : s.buildStatePost.pending = s.pending := by
  unfold State.buildStatePost; split <;> simp

@[simp] theorem State.countGrace_pins : s.countGrace.pins = s.pins := by unfold State.countGrace; split <;> rfl
@[simp] theorem State.countGrace_station : s.countGrace.station = s.station := by
  unfold State.countGrace; split <;> rfl
@[simp] theorem State.countGrace_bus : s.countGrace.bus = s.bus := by unfold State.countGrace; split <;> rfl
@[simp] theorem State.countGrace_counters : s.countGrace.counters = s.counters := by
  unfold State.countGrace; split <;> rfl
@[simp] theorem State.countGrace_peers : s.countGrace.peers = s.peers := by unfold State.countGrace; split <;> rfl
@[simp] theorem State.countGrace_meas : s.countGrace.meas = s.meas := by unfold State.countGrace; split <;> rfl
@[simp] theorem State.countGrace_geo : s.countGrace.geo = s.geo := by unfold State.countGrace; split <;> rfl
@[simp] theorem State.countGrace_gov : s.countGrace.gov = s.gov := by unfold State.countGrace; split <;> rfl
@[simp] theorem State.countGrace_grid : s.countGrace.grid = s.grid := by unfold State.countGrace; split <;> rfl
@[simp] theorem State.countGrace_load : s.countGrace.load = s.load := by unfold State.countGrace; split <;> rfl
@[simp] theorem State.countGrace_reports : s.countGrace.reports = s.reports := by
  unfold State.countGrace; split <;> rfl
@[simp] theorem State.countGrace_pending : s.countGrace.pending = s.pending := by
  unfold State.countGrace; split <;> rfl

@[simp] theorem State.duplicateHeard_pins : s.duplicateHeard.pins = s.pins := by
  unfold State.duplicateHeard; split <;> simp
@[simp] theorem State.duplicateHeard_station : s.duplicateHeard.station = s.station := by
  unfold State.duplicateHeard; split <;> simp
@[simp] theorem State.duplicateHeard_meas : s.duplicateHeard.meas = s.meas := by
  unfold State.duplicateHeard; split <;> simp
@[simp] theorem State.duplicateHeard_geo : s.duplicateHeard.geo = s.geo := by
  unfold State.duplicateHeard; split <;> simp
@[simp] theorem State.duplicateHeard_gov : s.duplicateHeard.gov = s.gov := by
  unfold State.duplicateHeard; split <;> simp
@[simp] theorem State.duplicateHeard_grid : s.duplicateHeard.grid = s.grid := by
  unfold State.duplicateHeard; split <;> simp
@[simp] theorem State.duplicateHeard_load : s.duplicateHeard.load = s.load := by
  unfold State.duplicateHeard; split <;> simp
@[simp] theorem State.duplicateHeard_prot : s.duplicateHeard.prot = s.prot := by
  unfold State.duplicateHeard; split <;> simp
@[simp] theorem State.duplicateHeard_reports : s.duplicateHeard.reports = s.reports := by
  unfold State.duplicateHeard; split <;> simp
@[simp] theorem State.duplicateHeard_pending : s.duplicateHeard.pending = s.pending := by
  unfold State.duplicateHeard; split <;> simp

@[simp] theorem State.countListen_pins : s.countListen.pins = s.pins := by
  unfold State.countListen; split <;> simp
@[simp] theorem State.countListen_peers : s.countListen.peers = s.peers := by
  unfold State.countListen; split <;> simp
@[simp] theorem State.countListen_geo : s.countListen.geo = s.geo := by unfold State.countListen; split <;> simp
@[simp] theorem State.countListen_grid : s.countListen.grid = s.grid := by
  unfold State.countListen; split <;> simp
@[simp] theorem State.countListen_load : s.countListen.load = s.load := by
  unfold State.countListen; split <;> simp
@[simp] theorem State.countListen_reports : s.countListen.reports = s.reports := by
  unfold State.countListen; split <;> simp
@[simp] theorem State.countListen_pending : s.countListen.pending = s.pending := by
  unfold State.countListen; split <;> simp

@[simp] theorem State.governorExpiry_pins : s.governorExpiry.pins = s.pins := by
  unfold State.governorExpiry; split <;> rfl
@[simp] theorem State.governorExpiry_station : s.governorExpiry.station = s.station := by
  unfold State.governorExpiry; split <;> rfl
@[simp] theorem State.governorExpiry_bus : s.governorExpiry.bus = s.bus := by
  unfold State.governorExpiry; split <;> rfl
@[simp] theorem State.governorExpiry_counters : s.governorExpiry.counters = s.counters := by
  unfold State.governorExpiry; split <;> rfl
@[simp] theorem State.governorExpiry_peers : s.governorExpiry.peers = s.peers := by
  unfold State.governorExpiry; split <;> rfl
@[simp] theorem State.governorExpiry_meas : s.governorExpiry.meas = s.meas := by
  unfold State.governorExpiry; split <;> rfl
@[simp] theorem State.governorExpiry_geo : s.governorExpiry.geo = s.geo := by
  unfold State.governorExpiry; split <;> rfl
@[simp] theorem State.governorExpiry_grid : s.governorExpiry.grid = s.grid := by
  unfold State.governorExpiry; split <;> rfl
@[simp] theorem State.governorExpiry_load : s.governorExpiry.load = s.load := by
  unfold State.governorExpiry; split <;> rfl
@[simp] theorem State.governorExpiry_prot : s.governorExpiry.prot = s.prot := by
  unfold State.governorExpiry; split <;> rfl
@[simp] theorem State.governorExpiry_reports : s.governorExpiry.reports = s.reports := by
  unfold State.governorExpiry; split <;> rfl
@[simp] theorem State.governorExpiry_pending : s.governorExpiry.pending = s.pending := by
  unfold State.governorExpiry; split <;> rfl

@[simp] theorem State.judgeWinding_pins : s.judgeWinding.pins = s.pins := by simp [State.judgeWinding]
@[simp] theorem State.judgeWinding_station : s.judgeWinding.station = s.station := by simp [State.judgeWinding]
@[simp] theorem State.judgeWinding_peers : s.judgeWinding.peers = s.peers := by simp [State.judgeWinding]
@[simp] theorem State.judgeWinding_meas : s.judgeWinding.meas = s.meas := by simp [State.judgeWinding]
@[simp] theorem State.judgeWinding_geo : s.judgeWinding.geo = s.geo := by simp [State.judgeWinding]
@[simp] theorem State.judgeWinding_gov : s.judgeWinding.gov = s.gov := by simp [State.judgeWinding]
@[simp] theorem State.judgeWinding_grid : s.judgeWinding.grid = s.grid := by simp [State.judgeWinding]
@[simp] theorem State.judgeWinding_load : s.judgeWinding.load = s.load := by simp [State.judgeWinding]
@[simp] theorem State.judgeWinding_reports : s.judgeWinding.reports = s.reports := by simp [State.judgeWinding]
@[simp] theorem State.judgeWinding_pending : s.judgeWinding.pending = s.pending := by simp [State.judgeWinding]

@[simp] theorem State.coolWinding_pins : s.coolWinding.pins = s.pins := by simp [State.coolWinding]
@[simp] theorem State.coolWinding_station : s.coolWinding.station = s.station := by simp [State.coolWinding]
@[simp] theorem State.coolWinding_peers : s.coolWinding.peers = s.peers := by simp [State.coolWinding]
@[simp] theorem State.coolWinding_meas : s.coolWinding.meas = s.meas := by simp [State.coolWinding]
@[simp] theorem State.coolWinding_geo : s.coolWinding.geo = s.geo := by simp [State.coolWinding]
@[simp] theorem State.coolWinding_gov : s.coolWinding.gov = s.gov := by simp [State.coolWinding]
@[simp] theorem State.coolWinding_grid : s.coolWinding.grid = s.grid := by simp [State.coolWinding]
@[simp] theorem State.coolWinding_reports : s.coolWinding.reports = s.reports := by simp [State.coolWinding]
@[simp] theorem State.coolWinding_pending : s.coolWinding.pending = s.pending := by simp [State.coolWinding]

@[simp] theorem State.integrateWinding_pins : s.integrateWinding.pins = s.pins := by simp [State.integrateWinding]
@[simp] theorem State.integrateWinding_station : s.integrateWinding.station = s.station := by
  simp [State.integrateWinding]
@[simp] theorem State.integrateWinding_peers : s.integrateWinding.peers = s.peers := by
  simp [State.integrateWinding]
@[simp] theorem State.integrateWinding_meas : s.integrateWinding.meas = s.meas := by simp [State.integrateWinding]
@[simp] theorem State.integrateWinding_geo : s.integrateWinding.geo = s.geo := by simp [State.integrateWinding]
@[simp] theorem State.integrateWinding_gov : s.integrateWinding.gov = s.gov := by simp [State.integrateWinding]
@[simp] theorem State.integrateWinding_grid : s.integrateWinding.grid = s.grid := by simp [State.integrateWinding]
@[simp] theorem State.integrateWinding_reports : s.integrateWinding.reports = s.reports := by
  simp [State.integrateWinding]
@[simp] theorem State.integrateWinding_pending : s.integrateWinding.pending = s.pending := by
  simp [State.integrateWinding]

@[simp] theorem State.judgeSlip_pins (n : Snapshot) (u : UpdateResult) : (s.judgeSlip n u).pins = s.pins := by
  unfold State.judgeSlip; (repeat' split) <;> simp
@[simp] theorem State.judgeSlip_station (n : Snapshot) (u : UpdateResult) :
    (s.judgeSlip n u).station = s.station :=
  by
  unfold State.judgeSlip; (repeat' split) <;> simp
@[simp] theorem State.judgeSlip_peers (n : Snapshot) (u : UpdateResult) : (s.judgeSlip n u).peers = s.peers := by
  unfold State.judgeSlip; (repeat' split) <;> simp
@[simp] theorem State.judgeSlip_meas (n : Snapshot) (u : UpdateResult) : (s.judgeSlip n u).meas = s.meas := by
  unfold State.judgeSlip; (repeat' split) <;> simp
@[simp] theorem State.judgeSlip_geo (n : Snapshot) (u : UpdateResult) : (s.judgeSlip n u).geo = s.geo := by
  unfold State.judgeSlip; (repeat' split) <;> simp
@[simp] theorem State.judgeSlip_gov (n : Snapshot) (u : UpdateResult) : (s.judgeSlip n u).gov = s.gov := by
  unfold State.judgeSlip; (repeat' split) <;> simp
@[simp] theorem State.judgeSlip_grid (n : Snapshot) (u : UpdateResult) : (s.judgeSlip n u).grid = s.grid := by
  unfold State.judgeSlip; (repeat' split) <;> simp
@[simp] theorem State.judgeSlip_load (n : Snapshot) (u : UpdateResult) : (s.judgeSlip n u).load = s.load := by
  unfold State.judgeSlip; (repeat' split) <;> simp
@[simp] theorem State.judgeSlip_reports (n : Snapshot) (u : UpdateResult) :
    (s.judgeSlip n u).reports = s.reports :=
  by
  unfold State.judgeSlip; (repeat' split) <;> simp
@[simp] theorem State.judgeSlip_pending (n : Snapshot) (u : UpdateResult) :
    (s.judgeSlip n u).pending = s.pending :=
  by
  unfold State.judgeSlip; (repeat' split) <;> simp

@[simp] theorem State.judgeShortfall_pins (n : Snapshot) (u : UpdateResult) :
    (s.judgeShortfall n u).pins = s.pins :=
  by
  unfold State.judgeShortfall; (repeat' split) <;> rfl
@[simp] theorem State.judgeShortfall_station (n : Snapshot) (u : UpdateResult) :
    (s.judgeShortfall n u).station = s.station :=
  by
  unfold State.judgeShortfall; (repeat' split) <;> rfl
@[simp] theorem State.judgeShortfall_bus (n : Snapshot) (u : UpdateResult) : (s.judgeShortfall n u).bus = s.bus :=
  by
  unfold State.judgeShortfall; (repeat' split) <;> rfl
@[simp] theorem State.judgeShortfall_counters (n : Snapshot) (u : UpdateResult) :
    (s.judgeShortfall n u).counters = s.counters :=
  by
  unfold State.judgeShortfall; (repeat' split) <;> rfl
@[simp] theorem State.judgeShortfall_peers (n : Snapshot) (u : UpdateResult) :
    (s.judgeShortfall n u).peers = s.peers :=
  by
  unfold State.judgeShortfall; (repeat' split) <;> rfl
@[simp] theorem State.judgeShortfall_meas (n : Snapshot) (u : UpdateResult) :
    (s.judgeShortfall n u).meas = s.meas :=
  by
  unfold State.judgeShortfall; (repeat' split) <;> rfl
@[simp] theorem State.judgeShortfall_geo (n : Snapshot) (u : UpdateResult) : (s.judgeShortfall n u).geo = s.geo :=
  by
  unfold State.judgeShortfall; (repeat' split) <;> rfl
@[simp] theorem State.judgeShortfall_gov (n : Snapshot) (u : UpdateResult) : (s.judgeShortfall n u).gov = s.gov :=
  by
  unfold State.judgeShortfall; (repeat' split) <;> rfl
@[simp] theorem State.judgeShortfall_grid (n : Snapshot) (u : UpdateResult) :
    (s.judgeShortfall n u).grid = s.grid :=
  by
  unfold State.judgeShortfall; (repeat' split) <;> rfl
@[simp] theorem State.judgeShortfall_load (n : Snapshot) (u : UpdateResult) :
    (s.judgeShortfall n u).load = s.load :=
  by
  unfold State.judgeShortfall; (repeat' split) <;> rfl
@[simp] theorem State.judgeShortfall_reports (n : Snapshot) (u : UpdateResult) :
    (s.judgeShortfall n u).reports = s.reports :=
  by
  unfold State.judgeShortfall; (repeat' split) <;> rfl
@[simp] theorem State.judgeShortfall_pending (n : Snapshot) (u : UpdateResult) :
    (s.judgeShortfall n u).pending = s.pending :=
  by
  unfold State.judgeShortfall; (repeat' split) <;> rfl

@[simp] theorem State.enterHeld_pins : s.enterHeld.pins = s.pins := by simp [State.enterHeld]
@[simp] theorem State.enterHeld_peers : s.enterHeld.peers = s.peers := by simp [State.enterHeld]
@[simp] theorem State.enterHeld_geo : s.enterHeld.geo = s.geo := by simp [State.enterHeld]
@[simp] theorem State.enterHeld_grid : s.enterHeld.grid = s.grid := by simp [State.enterHeld]
@[simp] theorem State.enterHeld_load : s.enterHeld.load = s.load := by simp [State.enterHeld]
@[simp] theorem State.enterHeld_reports : s.enterHeld.reports = s.reports := by simp [State.enterHeld]
@[simp] theorem State.enterHeld_pending : s.enterHeld.pending = s.pending := by simp [State.enterHeld]

@[simp] theorem State.completionReport_pins (n : Snapshot) (u : UpdateResult) :
    (s.completionReport n u).pins = s.pins :=
  by
  unfold State.completionReport; (repeat' split) <;> simp
@[simp] theorem State.completionReport_peers (n : Snapshot) (u : UpdateResult) :
    (s.completionReport n u).peers = s.peers :=
  by
  unfold State.completionReport; (repeat' split) <;> simp
@[simp] theorem State.completionReport_geo (n : Snapshot) (u : UpdateResult) :
    (s.completionReport n u).geo = s.geo :=
  by
  unfold State.completionReport; (repeat' split) <;> simp
@[simp] theorem State.completionReport_grid (n : Snapshot) (u : UpdateResult) :
    (s.completionReport n u).grid = s.grid :=
  by
  unfold State.completionReport; (repeat' split) <;> simp
@[simp] theorem State.completionReport_load (n : Snapshot) (u : UpdateResult) :
    (s.completionReport n u).load = s.load :=
  by
  unfold State.completionReport; (repeat' split) <;> simp
@[simp] theorem State.completionReport_reports (n : Snapshot) (u : UpdateResult) :
    (s.completionReport n u).reports = s.reports :=
  by
  unfold State.completionReport; (repeat' split) <;> simp
@[simp] theorem State.completionReport_pending (n : Snapshot) (u : UpdateResult) :
    (s.completionReport n u).pending = s.pending :=
  by
  unfold State.completionReport; (repeat' split) <;> simp

@[simp] theorem State.afterPop_pins (x : Context) : (s.afterPop x).pins = s.pins := by
  have h := foldl_keeps (fun t => t.pins) State.returnChannel (fun t c => State.returnChannel_pins t c)
  unfold State.afterPop; dsimp only; (repeat' split) <;> simp [h]
@[simp] theorem State.afterPop_station (x : Context) : (s.afterPop x).station = s.station := by
  have h := foldl_keeps (fun t => t.station) State.returnChannel (fun t c => State.returnChannel_station t c)
  unfold State.afterPop; dsimp only; (repeat' split) <;> simp [h]
@[simp] theorem State.afterPop_peers (x : Context) : (s.afterPop x).peers = s.peers := by
  have h := foldl_keeps (fun t => t.peers) State.returnChannel (fun t c => State.returnChannel_peers t c)
  unfold State.afterPop; dsimp only; (repeat' split) <;> simp [h]
@[simp] theorem State.afterPop_geo (x : Context) : (s.afterPop x).geo = s.geo := by
  have h := foldl_keeps (fun t => t.geo) State.returnChannel (fun t c => State.returnChannel_geo t c)
  unfold State.afterPop; dsimp only; (repeat' split) <;> simp [h]
@[simp] theorem State.afterPop_gov (x : Context) : (s.afterPop x).gov = s.gov := by
  have h := foldl_keeps (fun t => t.gov) State.returnChannel (fun t c => State.returnChannel_gov t c)
  unfold State.afterPop; dsimp only; (repeat' split) <;> simp [h]
@[simp] theorem State.afterPop_grid (x : Context) : (s.afterPop x).grid = s.grid := by
  have h := foldl_keeps (fun t => t.grid) State.returnChannel (fun t c => State.returnChannel_grid t c)
  unfold State.afterPop; dsimp only; (repeat' split) <;> simp [h]
@[simp] theorem State.afterPop_load (x : Context) : (s.afterPop x).load = s.load := by
  have h := foldl_keeps (fun t => t.load) State.returnChannel (fun t c => State.returnChannel_load t c)
  unfold State.afterPop; dsimp only; (repeat' split) <;> simp [h]
@[simp] theorem State.afterPop_reports (x : Context) : (s.afterPop x).reports = s.reports := by
  have h := foldl_keeps (fun t => t.reports) State.returnChannel (fun t c => State.returnChannel_reports t c)
  unfold State.afterPop; dsimp only; (repeat' split) <;> simp [h]
@[simp] theorem State.afterPop_pending (x : Context) : (s.afterPop x).pending = s.pending := by
  have h := foldl_keeps (fun t => t.pending) State.returnChannel (fun t c => State.returnChannel_pending t c)
  unfold State.afterPop; dsimp only; (repeat' split) <;> simp [h]

@[simp] theorem State.pop_pins : s.pop.pins = s.pins := by
  rw [State.pop, State.promotePending_pins]
  exact foldl_keeps (fun t => t.pins) _ (fun t x => State.afterPop_pins t x) _ _
@[simp] theorem State.pop_station : s.pop.station = s.station := by
  rw [State.pop, State.promotePending_station]
  exact foldl_keeps (fun t => t.station) _ (fun t x => State.afterPop_station t x) _ _
@[simp] theorem State.pop_peers : s.pop.peers = s.peers := by
  rw [State.pop, State.promotePending_peers]
  exact foldl_keeps (fun t => t.peers) _ (fun t x => State.afterPop_peers t x) _ _
@[simp] theorem State.pop_geo : s.pop.geo = s.geo := by
  rw [State.pop, State.promotePending_geo]
  exact foldl_keeps (fun t => t.geo) _ (fun t x => State.afterPop_geo t x) _ _
@[simp] theorem State.pop_gov : s.pop.gov = s.gov := by
  rw [State.pop, State.promotePending_gov]
  exact foldl_keeps (fun t => t.gov) _ (fun t x => State.afterPop_gov t x) _ _
@[simp] theorem State.pop_grid : s.pop.grid = s.grid := by
  rw [State.pop, State.promotePending_grid]
  exact foldl_keeps (fun t => t.grid) _ (fun t x => State.afterPop_grid t x) _ _
@[simp] theorem State.pop_load : s.pop.load = s.load := by
  rw [State.pop, State.promotePending_load]
  exact foldl_keeps (fun t => t.load) _ (fun t x => State.afterPop_load t x) _ _
@[simp] theorem State.pop_reports : s.pop.reports = s.reports := by
  rw [State.pop, State.promotePending_reports]
  exact foldl_keeps (fun t => t.reports) _ (fun t x => State.afterPop_reports t x) _ _
@[simp] theorem State.pop_pending : s.pop.pending = s.pending := by
  rw [State.pop, State.promotePending_pending]
  exact foldl_keeps (fun t => t.pending) _ (fun t x => State.afterPop_pending t x) _ _

@[simp] theorem State.judgeDeferred_pins : s.judgeDeferred.pins = s.pins :=
  foldl_keeps (fun t => t.pins) _ (fun t c => State.raiseWith_pins t false c none) _ _
@[simp] theorem State.judgeDeferred_station : s.judgeDeferred.station = s.station :=
  foldl_keeps (fun t => t.station) _ (fun t c => State.raiseWith_station t false c none) _ _
@[simp] theorem State.judgeDeferred_peers : s.judgeDeferred.peers = s.peers :=
  foldl_keeps (fun t => t.peers) _ (fun t c => State.raiseWith_peers t false c none) _ _
@[simp] theorem State.judgeDeferred_meas : s.judgeDeferred.meas = s.meas :=
  foldl_keeps (fun t => t.meas) _ (fun t c => State.raiseWith_meas t false c none) _ _
@[simp] theorem State.judgeDeferred_geo : s.judgeDeferred.geo = s.geo :=
  foldl_keeps (fun t => t.geo) _ (fun t c => State.raiseWith_geo t false c none) _ _
@[simp] theorem State.judgeDeferred_gov : s.judgeDeferred.gov = s.gov :=
  foldl_keeps (fun t => t.gov) _ (fun t c => State.raiseWith_gov t false c none) _ _
@[simp] theorem State.judgeDeferred_grid : s.judgeDeferred.grid = s.grid :=
  foldl_keeps (fun t => t.grid) _ (fun t c => State.raiseWith_grid t false c none) _ _
@[simp] theorem State.judgeDeferred_load : s.judgeDeferred.load = s.load :=
  foldl_keeps (fun t => t.load) _ (fun t c => State.raiseWith_load t false c none) _ _
@[simp] theorem State.judgeDeferred_reports : s.judgeDeferred.reports = s.reports :=
  foldl_keeps (fun t => t.reports) _ (fun t c => State.raiseWith_reports t false c none) _ _
@[simp] theorem State.judgeDeferred_pending : s.judgeDeferred.pending = s.pending :=
  foldl_keeps (fun t => t.pending) _ (fun t c => State.raiseWith_pending t false c none) _ _

@[simp] theorem State.protectionExpiry_pins : s.protectionExpiry.pins = s.pins := by simp [State.protectionExpiry]
@[simp] theorem State.protectionExpiry_station : s.protectionExpiry.station = s.station := by
  simp [State.protectionExpiry]
@[simp] theorem State.protectionExpiry_peers : s.protectionExpiry.peers = s.peers := by
  simp [State.protectionExpiry]
@[simp] theorem State.protectionExpiry_geo : s.protectionExpiry.geo = s.geo := by simp [State.protectionExpiry]
@[simp] theorem State.protectionExpiry_gov : s.protectionExpiry.gov = s.gov := by simp [State.protectionExpiry]
@[simp] theorem State.protectionExpiry_grid : s.protectionExpiry.grid = s.grid := by simp [State.protectionExpiry]
@[simp] theorem State.protectionExpiry_load : s.protectionExpiry.load = s.load := by simp [State.protectionExpiry]
@[simp] theorem State.protectionExpiry_reports : s.protectionExpiry.reports = s.reports := by
  simp [State.protectionExpiry]
@[simp] theorem State.protectionExpiry_pending : s.protectionExpiry.pending = s.pending := by
  simp [State.protectionExpiry]

@[simp] theorem State.readyAndPop_pins (c : ProtClass) : (s.readyAndPop c).pins = s.pins := by
  simp [State.readyAndPop]
@[simp] theorem State.readyAndPop_station (c : ProtClass) : (s.readyAndPop c).station = s.station := by
  simp [State.readyAndPop]
@[simp] theorem State.readyAndPop_peers (c : ProtClass) : (s.readyAndPop c).peers = s.peers := by
  simp [State.readyAndPop]
@[simp] theorem State.readyAndPop_geo (c : ProtClass) : (s.readyAndPop c).geo = s.geo := by
  simp [State.readyAndPop]
@[simp] theorem State.readyAndPop_gov (c : ProtClass) : (s.readyAndPop c).gov = s.gov := by
  simp [State.readyAndPop]
@[simp] theorem State.readyAndPop_grid (c : ProtClass) : (s.readyAndPop c).grid = s.grid := by
  simp [State.readyAndPop]
@[simp] theorem State.readyAndPop_load (c : ProtClass) : (s.readyAndPop c).load = s.load := by
  simp [State.readyAndPop]
@[simp] theorem State.readyAndPop_reports (c : ProtClass) : (s.readyAndPop c).reports = s.reports := by
  simp [State.readyAndPop]
@[simp] theorem State.readyAndPop_pending (c : ProtClass) : (s.readyAndPop c).pending = s.pending := by
  simp [State.readyAndPop]

@[simp] theorem State.demandNoticeStation_pins (d : Direction) : (s.demandNoticeStation d).pins = s.pins := by
  unfold State.demandNoticeStation; split <;> rfl
@[simp] theorem State.demandNoticeStation_bus (d : Direction) : (s.demandNoticeStation d).bus = s.bus := by
  unfold State.demandNoticeStation; split <;> rfl
@[simp] theorem State.demandNoticeStation_counters (d : Direction) :
    (s.demandNoticeStation d).counters = s.counters :=
  by
  unfold State.demandNoticeStation; split <;> rfl
@[simp] theorem State.demandNoticeStation_peers (d : Direction) : (s.demandNoticeStation d).peers = s.peers := by
  unfold State.demandNoticeStation; split <;> rfl
@[simp] theorem State.demandNoticeStation_meas (d : Direction) : (s.demandNoticeStation d).meas = s.meas := by
  unfold State.demandNoticeStation; split <;> rfl
@[simp] theorem State.demandNoticeStation_geo (d : Direction) : (s.demandNoticeStation d).geo = s.geo := by
  unfold State.demandNoticeStation; split <;> rfl
@[simp] theorem State.demandNoticeStation_grid (d : Direction) : (s.demandNoticeStation d).grid = s.grid := by
  unfold State.demandNoticeStation; split <;> rfl
@[simp] theorem State.demandNoticeStation_load (d : Direction) : (s.demandNoticeStation d).load = s.load := by
  unfold State.demandNoticeStation; split <;> rfl
@[simp] theorem State.demandNoticeStation_reports (d : Direction) :
    (s.demandNoticeStation d).reports = s.reports :=
  by
  unfold State.demandNoticeStation; split <;> rfl
@[simp] theorem State.demandNoticeStation_pending (d : Direction) :
    (s.demandNoticeStation d).pending = s.pending :=
  by
  unfold State.demandNoticeStation; split <;> rfl

@[simp] theorem State.demandNoticeProtection_pins : s.demandNoticeProtection.pins = s.pins := by
  unfold State.demandNoticeProtection; split <;> simp
@[simp] theorem State.demandNoticeProtection_peers : s.demandNoticeProtection.peers = s.peers := by
  unfold State.demandNoticeProtection; split <;> simp
@[simp] theorem State.demandNoticeProtection_meas : s.demandNoticeProtection.meas = s.meas := by
  unfold State.demandNoticeProtection; split <;> simp
@[simp] theorem State.demandNoticeProtection_geo : s.demandNoticeProtection.geo = s.geo := by
  unfold State.demandNoticeProtection; split <;> simp
@[simp] theorem State.demandNoticeProtection_grid : s.demandNoticeProtection.grid = s.grid := by
  unfold State.demandNoticeProtection; split <;> simp
@[simp] theorem State.demandNoticeProtection_load : s.demandNoticeProtection.load = s.load := by
  unfold State.demandNoticeProtection; split <;> simp
@[simp] theorem State.demandNoticeProtection_prot : s.demandNoticeProtection.prot = s.prot := by
  unfold State.demandNoticeProtection; split <;> simp
@[simp] theorem State.demandNoticeProtection_reports : s.demandNoticeProtection.reports = s.reports := by
  unfold State.demandNoticeProtection; split <;> simp
@[simp] theorem State.demandNoticeProtection_pending : s.demandNoticeProtection.pending = s.pending := by
  unfold State.demandNoticeProtection; split <;> simp

@[simp] theorem State.configItem_pins (i v : Nat) : (s.configItem i v).pins = s.pins := by
  unfold State.configItem; dsimp only; (repeat' split) <;> simp
@[simp] theorem State.configItem_bus (i v : Nat) : (s.configItem i v).bus = s.bus := by
  unfold State.configItem; dsimp only; (repeat' split) <;> simp
@[simp] theorem State.configItem_peers (i v : Nat) : (s.configItem i v).peers = s.peers := by
  unfold State.configItem; dsimp only; (repeat' split) <;> simp
@[simp] theorem State.configItem_meas (i v : Nat) : (s.configItem i v).meas = s.meas := by
  unfold State.configItem; dsimp only; (repeat' split) <;> simp
@[simp] theorem State.configItem_geo (i v : Nat) : (s.configItem i v).geo = s.geo := by
  unfold State.configItem; dsimp only; (repeat' split) <;> simp
@[simp] theorem State.configItem_gov (i v : Nat) : (s.configItem i v).gov = s.gov := by
  unfold State.configItem; dsimp only; (repeat' split) <;> simp
@[simp] theorem State.configItem_grid (i v : Nat) : (s.configItem i v).grid = s.grid := by
  unfold State.configItem; dsimp only; (repeat' split) <;> simp
@[simp] theorem State.configItem_load (i v : Nat) : (s.configItem i v).load = s.load := by
  unfold State.configItem; dsimp only; (repeat' split) <;> simp
@[simp] theorem State.configItem_prot (i v : Nat) : (s.configItem i v).prot = s.prot := by
  unfold State.configItem; dsimp only; (repeat' split) <;> simp
@[simp] theorem State.configItem_reports (i v : Nat) : (s.configItem i v).reports = s.reports := by
  unfold State.configItem; dsimp only; (repeat' split) <;> simp
@[simp] theorem State.configItem_pending (i v : Nat) : (s.configItem i v).pending = s.pending := by
  unfold State.configItem; dsimp only; (repeat' split) <;> simp

@[simp] theorem State.judgeRelease_pins : s.judgeRelease.pins = s.pins := by
  unfold State.judgeRelease; split <;> simp
@[simp] theorem State.judgeRelease_station : s.judgeRelease.station = s.station := by
  unfold State.judgeRelease; split <;> simp
@[simp] theorem State.judgeRelease_peers : s.judgeRelease.peers = s.peers := by
  unfold State.judgeRelease; split <;> simp
@[simp] theorem State.judgeRelease_geo : s.judgeRelease.geo = s.geo := by
  unfold State.judgeRelease; split <;> simp
@[simp] theorem State.judgeRelease_gov : s.judgeRelease.gov = s.gov := by
  unfold State.judgeRelease; split <;> simp
@[simp] theorem State.judgeRelease_grid : s.judgeRelease.grid = s.grid := by
  unfold State.judgeRelease; split <;> simp
@[simp] theorem State.judgeRelease_load : s.judgeRelease.load = s.load := by
  unfold State.judgeRelease; split <;> simp
@[simp] theorem State.judgeRelease_reports : s.judgeRelease.reports = s.reports := by
  unfold State.judgeRelease; split <;> simp
@[simp] theorem State.judgeRelease_pending : s.judgeRelease.pending = s.pending := by
  unfold State.judgeRelease; split <;> simp

@[simp] theorem State.judgeAcknowledge_pins (n : Nat) : (s.judgeAcknowledge n).pins = s.pins := by
  unfold State.judgeAcknowledge; split <;> simp
@[simp] theorem State.judgeAcknowledge_station (n : Nat) : (s.judgeAcknowledge n).station = s.station := by
  unfold State.judgeAcknowledge; split <;> simp
@[simp] theorem State.judgeAcknowledge_peers (n : Nat) : (s.judgeAcknowledge n).peers = s.peers := by
  unfold State.judgeAcknowledge; split <;> simp
@[simp] theorem State.judgeAcknowledge_geo (n : Nat) : (s.judgeAcknowledge n).geo = s.geo := by
  unfold State.judgeAcknowledge; split <;> simp
@[simp] theorem State.judgeAcknowledge_gov (n : Nat) : (s.judgeAcknowledge n).gov = s.gov := by
  unfold State.judgeAcknowledge; split <;> simp
@[simp] theorem State.judgeAcknowledge_grid (n : Nat) : (s.judgeAcknowledge n).grid = s.grid := by
  unfold State.judgeAcknowledge; split <;> simp
@[simp] theorem State.judgeAcknowledge_load (n : Nat) : (s.judgeAcknowledge n).load = s.load := by
  unfold State.judgeAcknowledge; split <;> simp
@[simp] theorem State.judgeAcknowledge_reports (n : Nat) : (s.judgeAcknowledge n).reports = s.reports := by
  unfold State.judgeAcknowledge; split <;> simp
@[simp] theorem State.judgeAcknowledge_pending (n : Nat) : (s.judgeAcknowledge n).pending = s.pending := by
  unfold State.judgeAcknowledge; split <;> simp

@[simp] theorem State.judgeClearTrip_pins : s.judgeClearTrip.pins = s.pins := by
  unfold State.judgeClearTrip; split <;> simp
@[simp] theorem State.judgeClearTrip_peers : s.judgeClearTrip.peers = s.peers := by
  unfold State.judgeClearTrip; split <;> simp
@[simp] theorem State.judgeClearTrip_geo : s.judgeClearTrip.geo = s.geo := by
  unfold State.judgeClearTrip; split <;> simp
@[simp] theorem State.judgeClearTrip_grid : s.judgeClearTrip.grid = s.grid := by
  unfold State.judgeClearTrip; split <;> simp
@[simp] theorem State.judgeClearTrip_load : s.judgeClearTrip.load = s.load := by
  unfold State.judgeClearTrip; split <;> simp
@[simp] theorem State.judgeClearTrip_reports : s.judgeClearTrip.reports = s.reports := by
  unfold State.judgeClearTrip; split <;> simp
@[simp] theorem State.judgeClearTrip_pending : s.judgeClearTrip.pending = s.pending := by
  unfold State.judgeClearTrip; split <;> simp

@[simp] theorem State.judgeLock_pins : s.judgeLock.pins = s.pins := by
  unfold State.judgeLock; (repeat' split) <;> simp
@[simp] theorem State.judgeLock_peers : s.judgeLock.peers = s.peers := by
  unfold State.judgeLock; (repeat' split) <;> simp
@[simp] theorem State.judgeLock_geo : s.judgeLock.geo = s.geo := by
  unfold State.judgeLock; (repeat' split) <;> simp
@[simp] theorem State.judgeLock_grid : s.judgeLock.grid = s.grid := by
  unfold State.judgeLock; (repeat' split) <;> simp
@[simp] theorem State.judgeLock_load : s.judgeLock.load = s.load := by
  unfold State.judgeLock; (repeat' split) <;> simp
@[simp] theorem State.judgeLock_reports : s.judgeLock.reports = s.reports := by
  unfold State.judgeLock; (repeat' split) <;> simp
@[simp] theorem State.judgeLock_pending : s.judgeLock.pending = s.pending := by
  unfold State.judgeLock; (repeat' split) <;> simp

@[simp] theorem State.updateRecord_pins (c : Channel) (j : Judgement) (r : Int) :
    (s.updateRecord c j r).pins = s.pins :=
  by
  unfold State.updateRecord; dsimp only; (repeat' split) <;> simp
@[simp] theorem State.updateRecord_station (c : Channel) (j : Judgement) (r : Int) :
    (s.updateRecord c j r).station = s.station :=
  by
  unfold State.updateRecord; dsimp only; (repeat' split) <;> simp
@[simp] theorem State.updateRecord_peers (c : Channel) (j : Judgement) (r : Int) :
    (s.updateRecord c j r).peers = s.peers :=
  by
  unfold State.updateRecord; dsimp only; (repeat' split) <;> simp
@[simp] theorem State.updateRecord_geo (c : Channel) (j : Judgement) (r : Int) :
    (s.updateRecord c j r).geo = s.geo :=
  by
  unfold State.updateRecord; dsimp only; (repeat' split) <;> simp
@[simp] theorem State.updateRecord_gov (c : Channel) (j : Judgement) (r : Int) :
    (s.updateRecord c j r).gov = s.gov :=
  by
  unfold State.updateRecord; dsimp only; (repeat' split) <;> simp
@[simp] theorem State.updateRecord_grid (c : Channel) (j : Judgement) (r : Int) :
    (s.updateRecord c j r).grid = s.grid :=
  by
  unfold State.updateRecord; dsimp only; (repeat' split) <;> simp
@[simp] theorem State.updateRecord_load (c : Channel) (j : Judgement) (r : Int) :
    (s.updateRecord c j r).load = s.load :=
  by
  unfold State.updateRecord; dsimp only; (repeat' split) <;> simp
@[simp] theorem State.updateRecord_reports (c : Channel) (j : Judgement) (r : Int) :
    (s.updateRecord c j r).reports = s.reports :=
  by
  unfold State.updateRecord; dsimp only; (repeat' split) <;> simp
@[simp] theorem State.updateRecord_pending (c : Channel) (j : Judgement) (r : Int) :
    (s.updateRecord c j r).pending = s.pending :=
  by
  unfold State.updateRecord; dsimp only; (repeat' split) <;> simp

@[simp] theorem State.handOver_pins (c : Channel) (j : Judgement) (r : Int) : (s.handOver c j r).pins = s.pins :=
  by
  unfold State.handOver; (repeat' split) <;> simp
@[simp] theorem State.handOver_peers (c : Channel) (j : Judgement) (r : Int) :
    (s.handOver c j r).peers = s.peers :=
  by
  unfold State.handOver; (repeat' split) <;> simp
@[simp] theorem State.handOver_geo (c : Channel) (j : Judgement) (r : Int) : (s.handOver c j r).geo = s.geo := by
  unfold State.handOver; (repeat' split) <;> simp
@[simp] theorem State.handOver_load (c : Channel) (j : Judgement) (r : Int) : (s.handOver c j r).load = s.load :=
  by
  unfold State.handOver; (repeat' split) <;> simp
@[simp] theorem State.handOver_reports (c : Channel) (j : Judgement) (r : Int) :
    (s.handOver c j r).reports = s.reports :=
  by
  unfold State.handOver; (repeat' split) <;> simp
@[simp] theorem State.handOver_pending (c : Channel) (j : Judgement) (r : Int) :
    (s.handOver c j r).pending = s.pending :=
  by
  unfold State.handOver; (repeat' split) <;> simp

@[simp] theorem State.spinUpCheck_station (b : Bool) : (s.spinUpCheck b).station = s.station := by
  unfold State.spinUpCheck; dsimp only; (repeat' split) <;> simp
@[simp] theorem State.spinUpCheck_peers (b : Bool) : (s.spinUpCheck b).peers = s.peers := by
  unfold State.spinUpCheck; dsimp only; (repeat' split) <;> simp
@[simp] theorem State.spinUpCheck_meas (b : Bool) : (s.spinUpCheck b).meas = s.meas := by
  unfold State.spinUpCheck; dsimp only; (repeat' split) <;> simp
@[simp] theorem State.spinUpCheck_geo (b : Bool) : (s.spinUpCheck b).geo = s.geo := by
  unfold State.spinUpCheck; dsimp only; (repeat' split) <;> simp
@[simp] theorem State.spinUpCheck_gov (b : Bool) : (s.spinUpCheck b).gov = s.gov := by
  unfold State.spinUpCheck; dsimp only; (repeat' split) <;> simp
@[simp] theorem State.spinUpCheck_load (b : Bool) : (s.spinUpCheck b).load = s.load := by
  unfold State.spinUpCheck; dsimp only; (repeat' split) <;> simp
@[simp] theorem State.spinUpCheck_prot (b : Bool) : (s.spinUpCheck b).prot = s.prot := by
  unfold State.spinUpCheck; dsimp only; (repeat' split) <;> simp
@[simp] theorem State.spinUpCheck_reports (b : Bool) : (s.spinUpCheck b).reports = s.reports := by
  unfold State.spinUpCheck; dsimp only; (repeat' split) <;> simp
@[simp] theorem State.spinUpCheck_pending (b : Bool) : (s.spinUpCheck b).pending = s.pending := by
  unfold State.spinUpCheck; dsimp only; (repeat' split) <;> simp

@[simp] theorem State.countSpinUp_station (b : Bool) : (s.countSpinUp b).station = s.station := by
  unfold State.countSpinUp; (repeat' split) <;> simp
@[simp] theorem State.countSpinUp_peers (b : Bool) : (s.countSpinUp b).peers = s.peers := by
  unfold State.countSpinUp; (repeat' split) <;> simp
@[simp] theorem State.countSpinUp_meas (b : Bool) : (s.countSpinUp b).meas = s.meas := by
  unfold State.countSpinUp; (repeat' split) <;> simp
@[simp] theorem State.countSpinUp_geo (b : Bool) : (s.countSpinUp b).geo = s.geo := by
  unfold State.countSpinUp; (repeat' split) <;> simp
@[simp] theorem State.countSpinUp_gov (b : Bool) : (s.countSpinUp b).gov = s.gov := by
  unfold State.countSpinUp; (repeat' split) <;> simp
@[simp] theorem State.countSpinUp_load (b : Bool) : (s.countSpinUp b).load = s.load := by
  unfold State.countSpinUp; (repeat' split) <;> simp
@[simp] theorem State.countSpinUp_prot (b : Bool) : (s.countSpinUp b).prot = s.prot := by
  unfold State.countSpinUp; (repeat' split) <;> simp
@[simp] theorem State.countSpinUp_reports (b : Bool) : (s.countSpinUp b).reports = s.reports := by
  unfold State.countSpinUp; (repeat' split) <;> simp
@[simp] theorem State.countSpinUp_pending (b : Bool) : (s.countSpinUp b).pending = s.pending := by
  unfold State.countSpinUp; (repeat' split) <;> simp

@[simp] theorem State.judgeGridOpen_pins : s.judgeGridOpen.pins = s.pins := by
  unfold State.judgeGridOpen; dsimp only; split <;> simp
@[simp] theorem State.judgeGridOpen_peers : s.judgeGridOpen.peers = s.peers := by
  unfold State.judgeGridOpen; dsimp only; split <;> simp
@[simp] theorem State.judgeGridOpen_geo : s.judgeGridOpen.geo = s.geo := by
  unfold State.judgeGridOpen; dsimp only; split <;> simp
@[simp] theorem State.judgeGridOpen_load : s.judgeGridOpen.load = s.load := by
  unfold State.judgeGridOpen; dsimp only; split <;> simp
@[simp] theorem State.judgeGridOpen_reports : s.judgeGridOpen.reports = s.reports := by
  unfold State.judgeGridOpen; dsimp only; split <;> simp
@[simp] theorem State.judgeGridOpen_pending : s.judgeGridOpen.pending = s.pending := by
  unfold State.judgeGridOpen; dsimp only; split <;> simp

@[simp] theorem State.showStopLine_station (b : Bool) : (s.showStopLine b).station = s.station := by
  unfold State.showStopLine; split <;> rfl
@[simp] theorem State.showStopLine_bus (b : Bool) : (s.showStopLine b).bus = s.bus := by
  unfold State.showStopLine; split <;> rfl
@[simp] theorem State.showStopLine_counters (b : Bool) : (s.showStopLine b).counters = s.counters := by
  unfold State.showStopLine; split <;> rfl
@[simp] theorem State.showStopLine_peers (b : Bool) : (s.showStopLine b).peers = s.peers := by
  unfold State.showStopLine; split <;> rfl
@[simp] theorem State.showStopLine_meas (b : Bool) : (s.showStopLine b).meas = s.meas := by
  unfold State.showStopLine; split <;> rfl
@[simp] theorem State.showStopLine_geo (b : Bool) : (s.showStopLine b).geo = s.geo := by
  unfold State.showStopLine; split <;> rfl
@[simp] theorem State.showStopLine_gov (b : Bool) : (s.showStopLine b).gov = s.gov := by
  unfold State.showStopLine; split <;> rfl
@[simp] theorem State.showStopLine_grid (b : Bool) : (s.showStopLine b).grid = s.grid := by
  unfold State.showStopLine; split <;> rfl
@[simp] theorem State.showStopLine_load (b : Bool) : (s.showStopLine b).load = s.load := by
  unfold State.showStopLine; split <;> rfl
@[simp] theorem State.showStopLine_reports (b : Bool) : (s.showStopLine b).reports = s.reports := by
  unfold State.showStopLine; split <;> rfl
@[simp] theorem State.showStopLine_pending (b : Bool) : (s.showStopLine b).pending = s.pending := by
  unfold State.showStopLine; split <;> rfl

@[simp] theorem State.stopLineAsserted_pins : s.stopLineAsserted.pins = s.pins := by simp [State.stopLineAsserted]
@[simp] theorem State.stopLineAsserted_station : s.stopLineAsserted.station = s.station := by
  simp [State.stopLineAsserted]
@[simp] theorem State.stopLineAsserted_peers : s.stopLineAsserted.peers = s.peers := by
  simp [State.stopLineAsserted]
@[simp] theorem State.stopLineAsserted_meas : s.stopLineAsserted.meas = s.meas := by simp [State.stopLineAsserted]
@[simp] theorem State.stopLineAsserted_geo : s.stopLineAsserted.geo = s.geo := by simp [State.stopLineAsserted]
@[simp] theorem State.stopLineAsserted_gov : s.stopLineAsserted.gov = s.gov := by simp [State.stopLineAsserted]
@[simp] theorem State.stopLineAsserted_grid : s.stopLineAsserted.grid = s.grid := by simp [State.stopLineAsserted]
@[simp] theorem State.stopLineAsserted_load : s.stopLineAsserted.load = s.load := by simp [State.stopLineAsserted]
@[simp] theorem State.stopLineAsserted_reports : s.stopLineAsserted.reports = s.reports := by
  simp [State.stopLineAsserted]
@[simp] theorem State.stopLineAsserted_pending : s.stopLineAsserted.pending = s.pending := by
  simp [State.stopLineAsserted]

@[simp] theorem State.passBitTime_pins : s.passBitTime.pins = s.pins := by unfold State.passBitTime; split <;> rfl
@[simp] theorem State.passBitTime_station : s.passBitTime.station = s.station := by
  unfold State.passBitTime; split <;> rfl
@[simp] theorem State.passBitTime_counters : s.passBitTime.counters = s.counters := by
  unfold State.passBitTime; split <;> rfl
@[simp] theorem State.passBitTime_peers : s.passBitTime.peers = s.peers := by
  unfold State.passBitTime; split <;> rfl
@[simp] theorem State.passBitTime_meas : s.passBitTime.meas = s.meas := by unfold State.passBitTime; split <;> rfl
@[simp] theorem State.passBitTime_geo : s.passBitTime.geo = s.geo := by unfold State.passBitTime; split <;> rfl
@[simp] theorem State.passBitTime_gov : s.passBitTime.gov = s.gov := by unfold State.passBitTime; split <;> rfl
@[simp] theorem State.passBitTime_load : s.passBitTime.load = s.load := by unfold State.passBitTime; split <;> rfl
@[simp] theorem State.passBitTime_prot : s.passBitTime.prot = s.prot := by unfold State.passBitTime; split <;> rfl
@[simp] theorem State.passBitTime_reports : s.passBitTime.reports = s.reports := by
  unfold State.passBitTime; split <;> rfl
@[simp] theorem State.passBitTime_pending : s.passBitTime.pending = s.pending := by
  unfold State.passBitTime; split <;> rfl

@[simp] theorem State.hearOwnNumber_pins : s.hearOwnNumber.pins = s.pins := by
  unfold State.hearOwnNumber; split <;> rfl
@[simp] theorem State.hearOwnNumber_geo : s.hearOwnNumber.geo = s.geo := by
  unfold State.hearOwnNumber; split <;> rfl
@[simp] theorem State.hearOwnNumber_grid : s.hearOwnNumber.grid = s.grid := by
  unfold State.hearOwnNumber; split <;> rfl
@[simp] theorem State.hearOwnNumber_load : s.hearOwnNumber.load = s.load := by
  unfold State.hearOwnNumber; split <;> rfl
@[simp] theorem State.hearOwnNumber_prot : s.hearOwnNumber.prot = s.prot := by
  unfold State.hearOwnNumber; split <;> rfl
@[simp] theorem State.hearOwnNumber_reports : s.hearOwnNumber.reports = s.reports := by
  unfold State.hearOwnNumber; split <;> rfl
@[simp] theorem State.hearOwnNumber_pending : s.hearOwnNumber.pending = s.pending := by
  unfold State.hearOwnNumber; split <;> rfl

end Sys2Proof.Machine
end

