-- ==== Sys2Proof/Laws/Inner.lean ====
section
/-! SUPPORT. What the protection unit's operations and the alerts leave of the records they touch: of the bus port
only the urgent queue changes, of the protection unit only the stack and the two sets, of the counters only
urgent overflows and STOP takes. -/

namespace Sys2Proof.Machine

variable (s : State)

/-- The bus port but for its urgent queue. -/
def BusPort.rest (b : BusPort) : BusPort := { b with urgent := [] }

/-- The protection unit but for its stack and sets. -/
def Protection.rest (p : Protection) : Protection :=
  { p with stack := [], pendingSet := [], deferredSet := [] }

/-- The counters but for urgent overflows and STOP takes. -/
def Counters.rest (c : Counters) : Counters := { c with urgentOverflows := 0, stopTakes := 0 }

@[simp] theorem Counters.bump_urgentOverflows_rest (c : Counters) : (c.bump .urgentOverflows).rest = c.rest := rfl
@[simp] theorem Counters.bump_stopTakes_rest (c : Counters) : (c.bump .stopTakes).rest = c.rest := rfl
@[simp] theorem State.bump_counters (c : CounterId) : (s.bump c).counters = s.counters.bump c := rfl

@[simp] theorem State.offerUrgent_bus_rest (b : Body) : (s.offerUrgent b).bus.rest = s.bus.rest := by
  unfold State.offerUrgent; (repeat' split) <;> rfl
@[simp] theorem State.alert_bus_rest (k : AlertKind) (args : List Nat) :
    (s.alert k args).bus.rest = s.bus.rest := by
  simp [State.alert]
@[simp] theorem State.take_bus_rest (c : ProtClass) : (s.take c).bus.rest = s.bus.rest := by
  unfold State.take; (repeat' split) <;> first | rfl | simp
@[simp] theorem State.raiseWith_bus_rest (f : Bool) (c : ProtClass) (ch : Option Channel) :
    (s.raiseWith f c ch).bus.rest = s.bus.rest :=
  by
  unfold State.raiseWith; (repeat' split) <;> first | rfl | simp
@[simp] theorem State.raise_bus_rest (c : ProtClass) (ch : Option Channel) :
    (s.raise c ch).bus.rest = s.bus.rest :=
  by
  unfold State.raise; (repeat' split) <;> first | rfl | simp
@[simp] theorem State.judge_bus_rest (c : ProtClass) (h : Bool) : (s.judge c h).bus.rest = s.bus.rest := by
  unfold State.judge; (repeat' split) <;> first | rfl | simp
@[simp] theorem State.receiveStop_bus_rest : s.receiveStop.bus.rest = s.bus.rest := by
  unfold State.receiveStop; (repeat' split) <;> first | rfl | simp
@[simp] theorem State.promotePending_bus_rest : s.promotePending.bus.rest = s.bus.rest := by
  unfold State.promotePending; (repeat' split) <;> first | rfl | simp
@[simp] theorem State.trip_bus_rest (c : TripCause) : (s.trip c).bus.rest = s.bus.rest := by
  unfold State.trip; (repeat' split) <;> first | rfl | simp
@[simp] theorem State.receiveCause_bus_rest (c : TripCause) : (s.receiveCause c).bus.rest = s.bus.rest := by
  unfold State.receiveCause; dsimp only; (repeat' split) <;> simp
@[simp] theorem State.enterReady_bus_rest : s.enterReady.bus.rest = s.bus.rest := by
  unfold State.enterReady; dsimp only; split <;> simp
@[simp] theorem State.leaveListen_bus_rest : s.leaveListen.bus.rest = s.bus.rest := by
  unfold State.leaveListen; (repeat' split) <;> first | rfl | simp
@[simp] theorem State.report31_bus_rest : s.report31.bus.rest = s.bus.rest := by
  unfold State.report31; dsimp only; (repeat' split) <;> simp
@[simp] theorem State.duplicateHeard_bus_rest : s.duplicateHeard.bus.rest = s.bus.rest := by
  unfold State.duplicateHeard; (repeat' split) <;> first | rfl | simp
@[simp] theorem State.countListen_bus_rest : s.countListen.bus.rest = s.bus.rest := by
  unfold State.countListen; (repeat' split) <;> first | rfl | simp
@[simp] theorem State.judgeWinding_bus_rest : s.judgeWinding.bus.rest = s.bus.rest := by
  simp [State.judgeWinding]
@[simp] theorem State.coolWinding_bus_rest : s.coolWinding.bus.rest = s.bus.rest := by simp [State.coolWinding]
@[simp] theorem State.integrateWinding_bus_rest : s.integrateWinding.bus.rest = s.bus.rest := by
  simp [State.integrateWinding]
@[simp] theorem State.judgeSlip_bus_rest (n : Snapshot) (u : UpdateResult) :
    (s.judgeSlip n u).bus.rest = s.bus.rest :=
  by
  unfold State.judgeSlip; (repeat' split) <;> first | rfl | simp
@[simp] theorem State.enterHeld_bus_rest : s.enterHeld.bus.rest = s.bus.rest := by simp [State.enterHeld]
@[simp] theorem State.completionReport_bus_rest (n : Snapshot) (u : UpdateResult) :
    (s.completionReport n u).bus.rest = s.bus.rest :=
  by
  unfold State.completionReport; (repeat' split) <;> first | rfl | simp
@[simp] theorem State.afterPop_bus_rest (x : Context) : (s.afterPop x).bus.rest = s.bus.rest := by
  have h := foldl_keeps (fun t => t.bus) State.returnChannel (fun t c => State.returnChannel_bus t c)
  unfold State.afterPop; dsimp only; (repeat' split) <;> simp [h]
@[simp] theorem State.pop_bus_rest : s.pop.bus.rest = s.bus.rest := by
  rw [State.pop, State.promotePending_bus_rest]
  exact foldl_keeps (fun t => t.bus.rest) _ (fun t x => State.afterPop_bus_rest t x) _ _
@[simp] theorem State.judgeDeferred_bus_rest : s.judgeDeferred.bus.rest = s.bus.rest :=
  foldl_keeps (fun t => t.bus.rest) _ (fun t c => State.raiseWith_bus_rest t false c none) _ _
@[simp] theorem State.protectionExpiry_bus_rest : s.protectionExpiry.bus.rest = s.bus.rest :=
  (State.pop_bus_rest _).trans rfl
@[simp] theorem State.readyAndPop_bus_rest (c : ProtClass) : (s.readyAndPop c).bus.rest = s.bus.rest :=
  (State.pop_bus_rest _).trans rfl
@[simp] theorem State.demandNoticeProtection_bus_rest : s.demandNoticeProtection.bus.rest = s.bus.rest := by
  unfold State.demandNoticeProtection; (repeat' split) <;> first | rfl | simp
@[simp] theorem State.judgeRelease_bus_rest : s.judgeRelease.bus.rest = s.bus.rest := by
  unfold State.judgeRelease; (repeat' split) <;> first | rfl | simp
@[simp] theorem State.judgeAcknowledge_bus_rest (n : Nat) : (s.judgeAcknowledge n).bus.rest = s.bus.rest := by
  unfold State.judgeAcknowledge; (repeat' split) <;> first | rfl | simp
@[simp] theorem State.judgeClearTrip_bus_rest : s.judgeClearTrip.bus.rest = s.bus.rest := by
  unfold State.judgeClearTrip; (repeat' split) <;> first | rfl | simp
@[simp] theorem State.judgeLock_bus_rest : s.judgeLock.bus.rest = s.bus.rest := by
  unfold State.judgeLock; (repeat' split) <;> first | rfl | simp
@[simp] theorem State.updateRecord_bus_rest (c : Channel) (j : Judgement) (r : Int) :
    (s.updateRecord c j r).bus.rest = s.bus.rest := by
  unfold State.updateRecord; dsimp only; (repeat' split) <;> simp
@[simp] theorem State.handOver_bus_rest (c : Channel) (j : Judgement) (r : Int) :
    (s.handOver c j r).bus.rest = s.bus.rest :=
  by
  unfold State.handOver; (repeat' split) <;> first | rfl | simp
@[simp] theorem State.spinUpCheck_bus_rest (b : Bool) : (s.spinUpCheck b).bus.rest = s.bus.rest := by
  unfold State.spinUpCheck; dsimp only; (repeat' split) <;> simp
@[simp] theorem State.countSpinUp_bus_rest (b : Bool) : (s.countSpinUp b).bus.rest = s.bus.rest := by
  unfold State.countSpinUp; (repeat' split) <;> first | rfl | simp
@[simp] theorem State.judgeGridOpen_bus_rest : s.judgeGridOpen.bus.rest = s.bus.rest := by
  unfold State.judgeGridOpen; dsimp only; split <;> simp
@[simp] theorem State.stopLineAsserted_bus_rest : s.stopLineAsserted.bus.rest = s.bus.rest := by
  simp [State.stopLineAsserted]

@[simp] theorem State.refresh_prot_rest (c : ProtClass) (ch : Option Channel) :
    (s.refresh c ch).prot.rest = s.prot.rest :=
  rfl
@[simp] theorem State.withdraw_prot_rest (c : ProtClass) : (s.withdraw c).prot.rest = s.prot.rest := rfl
@[simp] theorem State.take_prot_rest (c : ProtClass) : (s.take c).prot.rest = s.prot.rest := by
  unfold State.take; (repeat' split) <;> simp [Protection.rest]
@[simp] theorem State.raiseWith_prot_rest (f : Bool) (c : ProtClass) (ch : Option Channel) :
    (s.raiseWith f c ch).prot.rest = s.prot.rest :=
  by
  unfold State.raiseWith; (repeat' split) <;> first | rfl | simp
@[simp] theorem State.raise_prot_rest (c : ProtClass) (ch : Option Channel) :
    (s.raise c ch).prot.rest = s.prot.rest :=
  by
  unfold State.raise; (repeat' split) <;> first | rfl | simp
@[simp] theorem State.judge_prot_rest (c : ProtClass) (h : Bool) : (s.judge c h).prot.rest = s.prot.rest := by
  unfold State.judge; (repeat' split) <;> first | rfl | simp
@[simp] theorem State.receiveStop_prot_rest : s.receiveStop.prot.rest = s.prot.rest := by
  unfold State.receiveStop; (repeat' split) <;> first | rfl | simp
@[simp] theorem State.promotePending_prot_rest : s.promotePending.prot.rest = s.prot.rest := by
  unfold State.promotePending; (repeat' split) <;> first | rfl | simp
@[simp] theorem State.report31_prot_rest : s.report31.prot.rest = s.prot.rest := by
  unfold State.report31; dsimp only; (repeat' split) <;> simp
@[simp] theorem State.judgeWinding_prot_rest : s.judgeWinding.prot.rest = s.prot.rest := by
  simp [State.judgeWinding]
@[simp] theorem State.coolWinding_prot_rest : s.coolWinding.prot.rest = s.prot.rest := by
  simp [State.coolWinding]
@[simp] theorem State.integrateWinding_prot_rest : s.integrateWinding.prot.rest = s.prot.rest := by
  simp [State.integrateWinding]
@[simp] theorem State.judgeSlip_prot_rest (n : Snapshot) (u : UpdateResult) :
    (s.judgeSlip n u).prot.rest = s.prot.rest :=
  by
  unfold State.judgeSlip; (repeat' split) <;> first | rfl | simp
@[simp] theorem State.afterPop_prot_rest (x : Context) : (s.afterPop x).prot.rest = s.prot.rest := by
  have h := foldl_keeps (fun t => t.prot) State.returnChannel (fun t c => State.returnChannel_prot t c)
  unfold State.afterPop; dsimp only; (repeat' split) <;> simp [h]
@[simp] theorem State.pop_prot_rest : s.pop.prot.rest = s.prot.rest := by
  rw [State.pop, State.promotePending_prot_rest]
  exact foldl_keeps (fun t => t.prot.rest) _ (fun t x => State.afterPop_prot_rest t x) _ _
@[simp] theorem State.judgeDeferred_prot_rest : s.judgeDeferred.prot.rest = s.prot.rest :=
  foldl_keeps (fun t => t.prot.rest) _ (fun t c => State.raiseWith_prot_rest t false c none) _ _
@[simp] theorem State.protectionExpiry_prot_rest : s.protectionExpiry.prot.rest = s.prot.rest :=
  (State.pop_prot_rest _).trans rfl
@[simp] theorem State.readyAndPop_prot_rest (c : ProtClass) : (s.readyAndPop c).prot.rest = s.prot.rest :=
  (State.pop_prot_rest _).trans rfl
@[simp] theorem State.judgeRelease_prot_rest : s.judgeRelease.prot.rest = s.prot.rest := by
  unfold State.judgeRelease; (repeat' split) <;> first | rfl | simp
@[simp] theorem State.judgeAcknowledge_prot_rest (n : Nat) : (s.judgeAcknowledge n).prot.rest = s.prot.rest := by
  unfold State.judgeAcknowledge; (repeat' split) <;> first | rfl | simp
@[simp] theorem State.updateRecord_prot_rest (c : Channel) (j : Judgement) (r : Int) :
    (s.updateRecord c j r).prot.rest = s.prot.rest := by
  unfold State.updateRecord; dsimp only; (repeat' split) <;> simp
@[simp] theorem State.stopLineAsserted_prot_rest : s.stopLineAsserted.prot.rest = s.prot.rest := by
  simp [State.stopLineAsserted]

@[simp] theorem State.offerUrgent_counters_rest (b : Body) :
    (s.offerUrgent b).counters.rest = s.counters.rest := by
  unfold State.offerUrgent; (repeat' split) <;> rfl
@[simp] theorem State.alert_counters_rest (k : AlertKind) (args : List Nat) :
    (s.alert k args).counters.rest = s.counters.rest := by
  simp [State.alert]
@[simp] theorem State.take_counters_rest (c : ProtClass) : (s.take c).counters.rest = s.counters.rest := by
  unfold State.take; (repeat' split) <;> first | rfl | simp
@[simp] theorem State.raiseWith_counters_rest (f : Bool) (c : ProtClass) (ch : Option Channel) :
    (s.raiseWith f c ch).counters.rest = s.counters.rest :=
  by
  unfold State.raiseWith; (repeat' split) <;> first | rfl | simp
@[simp] theorem State.raise_counters_rest (c : ProtClass) (ch : Option Channel) :
    (s.raise c ch).counters.rest = s.counters.rest :=
  by
  unfold State.raise; (repeat' split) <;> first | rfl | simp
@[simp] theorem State.judge_counters_rest (c : ProtClass) (h : Bool) :
    (s.judge c h).counters.rest = s.counters.rest :=
  by
  unfold State.judge; (repeat' split) <;> first | rfl | simp
@[simp] theorem State.receiveStop_counters_rest : s.receiveStop.counters.rest = s.counters.rest := by
  unfold State.receiveStop; (repeat' split) <;> first | rfl | simp
@[simp] theorem State.promotePending_counters_rest : s.promotePending.counters.rest = s.counters.rest := by
  unfold State.promotePending; (repeat' split) <;> first | rfl | simp
@[simp] theorem State.trip_counters_rest (c : TripCause) : (s.trip c).counters.rest = s.counters.rest := by
  unfold State.trip; (repeat' split) <;> first | rfl | simp
@[simp] theorem State.report31_counters_rest : s.report31.counters.rest = s.counters.rest := by
  unfold State.report31; dsimp only; (repeat' split) <;> simp
@[simp] theorem State.duplicateHeard_counters_rest : s.duplicateHeard.counters.rest = s.counters.rest := by
  unfold State.duplicateHeard; (repeat' split) <;> first | rfl | simp
@[simp] theorem State.judgeWinding_counters_rest : s.judgeWinding.counters.rest = s.counters.rest := by
  simp [State.judgeWinding]
@[simp] theorem State.coolWinding_counters_rest : s.coolWinding.counters.rest = s.counters.rest := by
  simp [State.coolWinding]
@[simp] theorem State.integrateWinding_counters_rest : s.integrateWinding.counters.rest = s.counters.rest := by
  simp [State.integrateWinding]
@[simp] theorem State.judgeSlip_counters_rest (n : Snapshot) (u : UpdateResult) :
    (s.judgeSlip n u).counters.rest = s.counters.rest :=
  by
  unfold State.judgeSlip; (repeat' split) <;> first | rfl | simp
@[simp] theorem State.enterHeld_counters_rest : s.enterHeld.counters.rest = s.counters.rest := by
  simp [State.enterHeld]
@[simp] theorem State.completionReport_counters_rest (n : Snapshot) (u : UpdateResult) :
    (s.completionReport n u).counters.rest = s.counters.rest :=
  by
  unfold State.completionReport; (repeat' split) <;> first | rfl | simp
@[simp] theorem State.afterPop_counters_rest (x : Context) : (s.afterPop x).counters.rest = s.counters.rest := by
  have h := foldl_keeps (fun t => t.counters) State.returnChannel (fun t c => State.returnChannel_counters t c)
  unfold State.afterPop; dsimp only; (repeat' split) <;> simp [h]
@[simp] theorem State.pop_counters_rest : s.pop.counters.rest = s.counters.rest := by
  rw [State.pop, State.promotePending_counters_rest]
  exact foldl_keeps (fun t => t.counters.rest) _ (fun t x => State.afterPop_counters_rest t x) _ _
@[simp] theorem State.judgeDeferred_counters_rest : s.judgeDeferred.counters.rest = s.counters.rest :=
  foldl_keeps (fun t => t.counters.rest) _ (fun t c => State.raiseWith_counters_rest t false c none) _ _
@[simp] theorem State.protectionExpiry_counters_rest : s.protectionExpiry.counters.rest = s.counters.rest :=
  (State.pop_counters_rest _).trans rfl
@[simp] theorem State.readyAndPop_counters_rest (c : ProtClass) :
    (s.readyAndPop c).counters.rest = s.counters.rest :=
  (State.pop_counters_rest _).trans rfl
@[simp] theorem State.demandNoticeProtection_counters_rest :
    s.demandNoticeProtection.counters.rest = s.counters.rest :=
  by
  unfold State.demandNoticeProtection; (repeat' split) <;> first | rfl | simp
@[simp] theorem State.updateRecord_counters_rest (c : Channel) (j : Judgement) (r : Int) :
    (s.updateRecord c j r).counters.rest = s.counters.rest := by
  unfold State.updateRecord; dsimp only; (repeat' split) <;> simp
@[simp] theorem State.spinUpCheck_counters_rest (b : Bool) :
    (s.spinUpCheck b).counters.rest = s.counters.rest := by
  unfold State.spinUpCheck; dsimp only; (repeat' split) <;> simp
@[simp] theorem State.countSpinUp_counters_rest (b : Bool) : (s.countSpinUp b).counters.rest = s.counters.rest :=
  by
  unfold State.countSpinUp; (repeat' split) <;> first | rfl | simp
@[simp] theorem State.stopLineAsserted_counters_rest : s.stopLineAsserted.counters.rest = s.counters.rest := by
  simp [State.stopLineAsserted]

end Sys2Proof.Machine
end

