-- ==== Sys2Proof/Laws/Ops.lean ====
section
/-! SUPPORT. What each shared operation can do, said once: one lemma per operation, cited in place of its
definition. -/

namespace Sys2Proof.Machine

/-! ### Steps -/

/-- A step with a command in front runs it on the state with the rest of the queue. -/
theorem step_of_pending {s : State} {c : Instr} {q : List Instr} (h : s.pending = c :: q) :
    step s = exec c (s.withPending q) := by
  simp [step, h]

/-- A step on an empty queue lets one bit-time pass. -/
theorem step_of_empty {s : State} (h : s.pending = []) : step s = .next s.passBitTime := by
  simp [step, h]

/-! ### Access -/

@[simp] theorem Peers.get_set_same (p : Peers) (e : PeerEntry) (i : StationId) : (p.set e i).get i = e := by
  cases i <;> rfl

theorem Peers.get_set_other (p : Peers) (e : PeerEntry) {i j : StationId} (h : i ≠ j) :
    (p.set e i).get j = p.get j := by
  cases i <;> cases j <;> first | rfl | exact absurd rfl h

@[simp] theorem Peers.get_map (p : Peers) (f : PeerEntry → PeerEntry) (i : StationId) :
    (p.map f).get i = f (p.get i) := by
  cases i <;> rfl

@[simp] theorem Channels.get_set_same (c : Channels) (r : ChannelRecord) (k : Channel) : (c.set r k).get k = r := by
  cases k <;> rfl

theorem Channels.get_set_other (c : Channels) (r : ChannelRecord) {k j : Channel} (h : k ≠ j) :
    (c.set r k).get j = c.get j := by
  cases k <;> cases j <;> first | rfl | exact absurd rfl h

@[simp] theorem Counters.get_bump_same (c : Counters) (i : CounterId) :
    (c.bump i).get i = countTo 65535 (c.get i) := by
  cases i <;> rfl

theorem Counters.get_bump_other (c : Counters) {i j : CounterId} (h : i ≠ j) : (c.bump i).get j = c.get j := by
  cases i <;> cases j <;> first | rfl | exact absurd rfl h

theorem countTo_le (top n : Nat) : countTo top n ≤ top := Nat.min_le_left _ _

theorem le_countTo {top n : Nat} (h : n ≤ top) : n ≤ countTo top n := by simp only [countTo]; omega

/-! ### Classes -/

/-- Each level belongs to one class (R155). -/
theorem ProtClass.level_injective {a b : ProtClass} (h : a.level = b.level) : a = b := by
  cases a <;> cases b <;> first | rfl | exact absurd h (by decide)

/-- The limits of a lower level are at least as restrictive (R155). -/
theorem ProtClass.limits_monotone {a b : ProtClass} (h : a.level ≤ b.level) :
    a.propelCeiling ≤ b.propelCeiling := by
  revert h; cases a <;> cases b <;> decide

@[simp] theorem mem_insertClass {c d : ProtClass} {l : List ProtClass} :
    d ∈ insertClass c l ↔ d = c ∨ d ∈ l := by
  induction l with
  | nil => simp [insertClass]
  | cons x rest ih =>
    unfold insertClass
    split
    · rename_i h; subst h; simp
    · split
      · simp
      · simp [ih]; tauto

/-- A set kept lowest level first stays so when a class joins it. -/
theorem insertClass_sorted {c : ProtClass} {l : List ProtClass}
    (h : (l.map ProtClass.level).Pairwise (· < ·)) :
    ((insertClass c l).map ProtClass.level).Pairwise (· < ·) := by
  induction l with
  | nil => simp [insertClass]
  | cons x rest ih =>
    rw [List.map_cons] at h
    obtain ⟨hx, hr⟩ := List.pairwise_cons.1 h
    unfold insertClass
    split
    · exact h
    · rename_i hne
      split
      · rename_i hlt
        refine List.pairwise_cons.2 ⟨?_, h⟩
        intro y hy
        rcases List.mem_cons.1 hy with rfl | hy
        · exact hlt
        · exact lt_trans hlt (hx y hy)
      · rename_i hge
        refine List.pairwise_cons.2 ⟨?_, ih hr⟩
        intro y hy
        obtain ⟨d, hd, rfl⟩ := List.mem_map.1 hy
        rcases mem_insertClass.1 hd with rfl | hd
        · exact lt_of_le_of_ne (Nat.le_of_not_lt hge) (fun e => hne (ProtClass.level_injective e.symm))
        · exact hx d.level (List.mem_map.2 ⟨d, hd, rfl⟩)

/-- A class is on the stack exactly if a context of it is. -/
theorem Protection.onStack_iff {p : Protection} {c : ProtClass} :
    p.onStack c = true ↔ ∃ x ∈ p.stack, x.cls = c := by
  simp [Protection.onStack]

/-! ### Queues and counters -/

/-- Offering a post (R13, R15): discarded when isolated, joined at the tail with room, else an overflow. -/
theorem State.offerUrgent_cases (s : State) (b : Body) :
    (s.station.state = .isolated ∧ s.offerUrgent b = s) ∨
    (s.station.state ≠ .isolated ∧ s.bus.urgent.length < 4 ∧
      s.offerUrgent b = { s with bus := { s.bus with urgent := s.bus.urgent ++ [b] } }) ∨
    (s.station.state ≠ .isolated ∧ 4 ≤ s.bus.urgent.length ∧ s.offerUrgent b = s.bump .urgentOverflows) := by
  unfold State.offerUrgent
  split
  · exact .inl ⟨‹_›, rfl⟩
  · split
    · exact .inr (.inl ⟨‹_›, ‹_›, rfl⟩)
    · exact .inr (.inr ⟨‹_›, by omega, rfl⟩)

/-- An arrival (R18): with room the entry joins and an untagged post is counted, else an overrun. -/
theorem State.joinRx_cases (s : State) (e : RxEntry) :
    (s.bus.rx.length < 8 ∧ s.joinRx e =
      { s with
        bus := { s.bus with rx := s.bus.rx ++ [e] }
        counters := if e.tagged then s.counters else s.counters.bump .receivedGood }) ∨
    (8 ≤ s.bus.rx.length ∧ s.joinRx e = s.bump .overruns) := by
  unfold State.joinRx
  split
  · left; refine ⟨‹_›, ?_⟩; dsimp only; split <;> rfl
  · right; exact ⟨by omega, rfl⟩

/-! ### Raises (R160, R165, R168) -/

/-- The five cases of a raise (R160). -/
theorem State.raiseWith_cases (s : State) (f : Bool) (c : ProtClass) (ch : Option Channel) :
    (s.prot.onStack c = true ∧ s.raiseWith f c ch = s.refresh c ch) ∨
    (s.prot.onStack c = false ∧ (c ∈ s.prot.pendingSet ∨ c ∈ s.prot.deferredSet) ∧ s.raiseWith f c ch = s) ∨
    (s.prot.onStack c = false ∧ c ∉ s.prot.pendingSet ∧ c ∉ s.prot.deferredSet ∧
      c.level < s.prot.topLevel ∧ f = true ∧ s.raiseWith f c ch =
        { s with prot := { s.prot with deferredSet := insertClass c s.prot.deferredSet } }) ∨
    (s.prot.onStack c = false ∧ c ∉ s.prot.pendingSet ∧ c ∉ s.prot.deferredSet ∧
      c.level < s.prot.topLevel ∧ f = false ∧ s.raiseWith f c ch = s.take c) ∨
    (s.prot.onStack c = false ∧ c ∉ s.prot.pendingSet ∧ c ∉ s.prot.deferredSet ∧
      s.prot.topLevel ≤ c.level ∧ s.raiseWith f c ch =
        { s with prot := { s.prot with pendingSet := insertClass c s.prot.pendingSet } }) := by
  unfold State.raiseWith
  cases hs : s.prot.onStack c
  · by_cases hm : c ∈ s.prot.pendingSet ∨ c ∈ s.prot.deferredSet
    · have hb : (s.prot.pendingSet.contains c || s.prot.deferredSet.contains c) = true := by
        simpa using hm
      exact .inr (.inl ⟨rfl, hm, by rw [if_neg (by simp), if_pos hb]⟩)
    · obtain ⟨hp, hd⟩ := not_or.1 hm
      by_cases hl : c.level < s.prot.topLevel
      · cases f
        · exact .inr (.inr (.inr (.inl ⟨rfl, hp, hd, hl, rfl, by simp [hp, hd, hl]⟩)))
        · exact .inr (.inr (.inl ⟨rfl, hp, hd, hl, rfl, by simp [hp, hd, hl]⟩))
      · exact .inr (.inr (.inr (.inr ⟨rfl, hp, hd, by omega, by simp [hp, hd, hl]⟩)))
  · exact .inl ⟨rfl, by simp⟩

/-- What a STOP does (R168): nothing where the protection unit takes none, a count for a second one, a
deferral in RUN during an update, else a take. -/
theorem State.receiveStop_cases (s : State) :
    (s.station.state.live = false ∧ s.receiveStop = s) ∨
    ((s.prot.onStack .stop = true ∨ .stop ∈ s.prot.deferredSet) ∧ s.receiveStop = s.bump .stopTakes) ∨
    (s.prot.onStack .stop = false ∧ .stop ∉ s.prot.deferredSet ∧ s.station.state = .run ∧ s.inFlight = true ∧
      s.receiveStop = { s with prot := { s.prot with deferredSet := insertClass .stop s.prot.deferredSet } }) ∨
    (s.prot.onStack .stop = false ∧ .stop ∉ s.prot.deferredSet ∧ s.receiveStop = s.take .stop) := by
  unfold State.receiveStop
  cases hl : s.station.state.live
  · exact .inl ⟨rfl, by simp⟩
  · by_cases hs : s.prot.onStack .stop = true ∨ .stop ∈ s.prot.deferredSet
    · have hb : (s.prot.onStack .stop || s.prot.deferredSet.contains .stop) = true := by simpa using hs
      exact .inr (.inl ⟨hs, by rw [if_neg (by simp), if_pos hb]⟩)
    · obtain ⟨h1, h2⟩ := not_or.1 hs
      have h1 : s.prot.onStack .stop = false := by simpa using h1
      by_cases hr : s.station.state = .run ∧ s.inFlight = true
      · exact .inr (.inr (.inl ⟨h1, h2, hr.1, hr.2, by simp [h1, h2, hr.1, hr.2]⟩))
      · have hb : (s.station.state == .run && s.inFlight) = false := by simpa using hr
        exact .inr (.inr (.inr ⟨h1, h2, by simp [h1, h2, hb]⟩))

/-- What becomes of the pending set after a pop (R165). -/
theorem State.promotePending_cases (s : State) :
    (s.inFlight = true ∧ s.promotePending = { s with prot := { s.prot with
        pendingSet := s.prot.pendingSet.filter (fun c => !decide (c.level < s.prot.topLevel))
        deferredSet := (s.prot.pendingSet.filter (fun c => decide (c.level < s.prot.topLevel))).foldl
          (fun d c => insertClass c d) s.prot.deferredSet } }) ∨
    (s.inFlight = false ∧ ∃ c rest, s.prot.pendingSet = c :: rest ∧ c.level < s.prot.topLevel ∧
      s.promotePending = s.take c) ∨
    (s.inFlight = false ∧ (∀ c rest, s.prot.pendingSet = c :: rest → s.prot.topLevel ≤ c.level) ∧
      s.promotePending = s) := by
  unfold State.promotePending
  cases hf : s.inFlight
  · right
    cases hp : s.prot.pendingSet with
    | nil => right; simp [lowestBelow]
    | cons c rest =>
      by_cases hl : c.level < s.prot.topLevel
      · left; exact ⟨rfl, c, rest, rfl, hl, by simp [lowestBelow, hl]⟩
      · right; refine ⟨rfl, ?_, by simp [lowestBelow, hl]⟩
        rintro d r h; cases h; omega
  · left; exact ⟨rfl, by simp⟩

/-- What a trip cause does (R173 to R175). -/
theorem State.receiveCause_cases (s : State) (c : TripCause) :
    ((s.station.state = .ready ∨ s.station.state = .run ∨ s.station.state = .held) ∧
      s.receiveCause c = (s.bump c.counter).trip c) ∨
    (s.station.state = .tripped ∧ c ∈ s.prot.causes ∧ s.receiveCause c = s.bump c.counter) ∨
    (s.station.state = .tripped ∧ c ∉ s.prot.causes ∧ s.receiveCause c =
      { s.bump c.counter with prot := { s.prot with causes := s.prot.causes ++ [c] } }) ∨
    ((s.station.state = .reset ∨ s.station.state = .listen ∨ s.station.state = .commission ∨
      s.station.state = .isolated) ∧ s.receiveCause c = s) := by
  unfold State.receiveCause
  cases h : s.station.state <;> simp
  by_cases hc : c ∈ s.prot.causes <;> simp [hc]

end Sys2Proof.Machine
end

