-- ==== Sys2Proof/WellFormed.lean ====
section
/-! DEFINITION. Which commands the surroundings can send at all: the checks on a command's operands that the
rules give and the types do not carry. The machine is total and gives every command a meaning; these
checks name the ones that the line cannot produce. -/

namespace Sys2Proof

/-- A command the surroundings can send: a reception of 2 idle bit-times and 1 to 40 bytes (R1, R2, R16), the last
of them ended by its mark or by its space bit; an active run of 1 to 48 bit-times for a start symbol (R16,
R19); disturbances within a test post's 10 bytes and the 2 idle bit-times before them (R20). -/
def Instr.wf : Instr → Bool
  | .postArrival levels => decide (3 ≤ levels.length ∧ levels.length ≤ 402)
      && (levels.length % 10 == 3 || levels.length % 10 == 2)
  | .startSymbol run => decide (1 ≤ run.length ∧ run.length ≤ 48)
  | .selfCheckCompletion flipsA flipsB _ => flipsA.all (· < 102) && flipsB.all (· < 102)
  | _ => true

end Sys2Proof
end

