-- ==== Sys2Proof/Laws/PerInstr.lean ====
section
/-! SUPPORT. The laws that hold of every command as syntax, one lemma per constructor. The table gives its rows no
bits (log 6), so no table word spells a command: commands come by the queue alone. -/

namespace Sys2Proof.Laws.NotSpelled

/-- No table word spells the command. -/
def Statement (i : Instr) : Prop := ∀ nbits w : Nat, decodeTableWord nbits w ≠ some i

end Sys2Proof.Laws.NotSpelled

theorem Sys2Proof.Laws.NotSpelled.coldReset :
    Sys2Proof.Laws.NotSpelled.Statement (.coldReset) := by
  intro nbits w h; cases h

theorem Sys2Proof.Laws.NotSpelled.resetRelease (straps : Fin 8) :
    Sys2Proof.Laws.NotSpelled.Statement (.resetRelease straps) := by
  intro nbits w h; cases h

theorem Sys2Proof.Laws.NotSpelled.selfCheckCompletion (flipsA flipsB : List Nat) (faultLine : Bool) :
    Sys2Proof.Laws.NotSpelled.Statement (.selfCheckCompletion flipsA flipsB faultLine) := by
  intro nbits w h; cases h

theorem Sys2Proof.Laws.NotSpelled.postArrival (levels : List Bool) :
    Sys2Proof.Laws.NotSpelled.Statement (.postArrival levels) := by
  intro nbits w h; cases h

theorem Sys2Proof.Laws.NotSpelled.lineHeldEpisode :
    Sys2Proof.Laws.NotSpelled.Statement (.lineHeldEpisode) := by
  intro nbits w h; cases h

theorem Sys2Proof.Laws.NotSpelled.lineHeldEnd :
    Sys2Proof.Laws.NotSpelled.Statement (.lineHeldEnd) := by
  intro nbits w h; cases h

theorem Sys2Proof.Laws.NotSpelled.postTransmission (waited : Nat) :
    Sys2Proof.Laws.NotSpelled.Statement (.postTransmission waited) := by
  intro nbits w h; cases h

theorem Sys2Proof.Laws.NotSpelled.transmissionCompletion :
    Sys2Proof.Laws.NotSpelled.Statement (.transmissionCompletion) := by
  intro nbits w h; cases h

theorem Sys2Proof.Laws.NotSpelled.collision :
    Sys2Proof.Laws.NotSpelled.Statement (.collision) := by
  intro nbits w h; cases h

theorem Sys2Proof.Laws.NotSpelled.absorption :
    Sys2Proof.Laws.NotSpelled.Statement (.absorption) := by
  intro nbits w h; cases h

theorem Sys2Proof.Laws.NotSpelled.lineHeldEntry :
    Sys2Proof.Laws.NotSpelled.Statement (.lineHeldEntry) := by
  intro nbits w h; cases h

theorem Sys2Proof.Laws.NotSpelled.taggedPost :
    Sys2Proof.Laws.NotSpelled.Statement (.taggedPost) := by
  intro nbits w h; cases h

theorem Sys2Proof.Laws.NotSpelled.state :
    Sys2Proof.Laws.NotSpelled.Statement (.state) := by
  intro nbits w h; cases h

theorem Sys2Proof.Laws.NotSpelled.alert :
    Sys2Proof.Laws.NotSpelled.Statement (.alert) := by
  intro nbits w h; cases h

theorem Sys2Proof.Laws.NotSpelled.report :
    Sys2Proof.Laws.NotSpelled.Statement (.report) := by
  intro nbits w h; cases h

theorem Sys2Proof.Laws.NotSpelled.demand :
    Sys2Proof.Laws.NotSpelled.Statement (.demand) := by
  intro nbits w h; cases h

theorem Sys2Proof.Laws.NotSpelled.config :
    Sys2Proof.Laws.NotSpelled.Statement (.config) := by
  intro nbits w h; cases h

theorem Sys2Proof.Laws.NotSpelled.query :
    Sys2Proof.Laws.NotSpelled.Statement (.query) := by
  intro nbits w h; cases h

theorem Sys2Proof.Laws.NotSpelled.stop :
    Sys2Proof.Laws.NotSpelled.Statement (.stop) := by
  intro nbits w h; cases h

theorem Sys2Proof.Laws.NotSpelled.release :
    Sys2Proof.Laws.NotSpelled.Statement (.release) := by
  intro nbits w h; cases h

theorem Sys2Proof.Laws.NotSpelled.clearTrip (faultLine : Bool) :
    Sys2Proof.Laws.NotSpelled.Statement (.clearTrip faultLine) := by
  intro nbits w h; cases h

theorem Sys2Proof.Laws.NotSpelled.acknowledge :
    Sys2Proof.Laws.NotSpelled.Statement (.acknowledge) := by
  intro nbits w h; cases h

theorem Sys2Proof.Laws.NotSpelled.restart (straps : Fin 8) :
    Sys2Proof.Laws.NotSpelled.Statement (.restart straps) := by
  intro nbits w h; cases h

theorem Sys2Proof.Laws.NotSpelled.lock (faultLine : Bool) :
    Sys2Proof.Laws.NotSpelled.Statement (.lock faultLine) := by
  intro nbits w h; cases h

theorem Sys2Proof.Laws.NotSpelled.postPeriodExpiry (faultLine : Bool) :
    Sys2Proof.Laws.NotSpelled.Statement (.postPeriodExpiry faultLine) := by
  intro nbits w h; cases h

theorem Sys2Proof.Laws.NotSpelled.listenIntervalEnd (faultLine : Bool) :
    Sys2Proof.Laws.NotSpelled.Statement (.listenIntervalEnd faultLine) := by
  intro nbits w h; cases h

theorem Sys2Proof.Laws.NotSpelled.controlPeriodExpiry (governorFirst : Bool) :
    Sys2Proof.Laws.NotSpelled.Statement (.controlPeriodExpiry governorFirst) := by
  intro nbits w h; cases h

theorem Sys2Proof.Laws.NotSpelled.controlUpdateCompletion :
    Sys2Proof.Laws.NotSpelled.Statement (.controlUpdateCompletion) := by
  intro nbits w h; cases h

theorem Sys2Proof.Laws.NotSpelled.conversionCompletion (raw : Int) :
    Sys2Proof.Laws.NotSpelled.Statement (.conversionCompletion raw) := by
  intro nbits w h; cases h

theorem Sys2Proof.Laws.NotSpelled.superframeCompletion (blowerRunning : Bool) :
    Sys2Proof.Laws.NotSpelled.Statement (.superframeCompletion blowerRunning) := by
  intro nbits w h; cases h

theorem Sys2Proof.Laws.NotSpelled.spinUpCompletion (blowerRunning : Bool) :
    Sys2Proof.Laws.NotSpelled.Statement (.spinUpCompletion blowerRunning) := by
  intro nbits w h; cases h

theorem Sys2Proof.Laws.NotSpelled.stopLineAsserted :
    Sys2Proof.Laws.NotSpelled.Statement (.stopLineAsserted) := by
  intro nbits w h; cases h

theorem Sys2Proof.Laws.NotSpelled.stopLineInactive :
    Sys2Proof.Laws.NotSpelled.Statement (.stopLineInactive) := by
  intro nbits w h; cases h

theorem Sys2Proof.Laws.NotSpelled.powerStageFault :
    Sys2Proof.Laws.NotSpelled.Statement (.powerStageFault) := by
  intro nbits w h; cases h

theorem Sys2Proof.Laws.NotSpelled.startSymbol (run : ActiveRun) :
    Sys2Proof.Laws.NotSpelled.Statement (.startSymbol run) := by
  intro nbits w h; cases h
end

