-- ==== Sys2Proof/Tests/Slice0.lean ====
section
/-! SUPPORT. Tests: the checks of WellFormed on ill-formed terms, the manual's worked figures, single steps with outcomes
read from the rules, and for every statement with hypotheses a concrete state and operands that meet them. -/

namespace Sys2Proof.Tests

open Sys2Proof Sys2Proof.Machine

/-! ### WellFormed and the table's words -/

theorem test_wf_refuses_a_reception_without_a_byte : (Instr.postArrival [false, false]).wf = false := by decide

theorem test_wf_refuses_a_reception_that_ends_within_a_byte :
    (Instr.postArrival (List.replicate 7 true)).wf = false := by decide

theorem test_wf_refuses_a_reception_past_the_longest_post :
    (Instr.postArrival (List.replicate 403 true)).wf = false := by decide +kernel

theorem test_wf_refuses_start_symbols_out_of_range :
    (Instr.startSymbol ⟨5, 0⟩).wf = false ∧ (Instr.startSymbol ⟨5, 49⟩).wf = false := by decide

theorem test_wf_refuses_a_disturbance_past_the_test_posts : (Instr.selfCheckCompletion [] [102] false).wf = false ∧
    (Instr.selfCheckCompletion [102] [] false).wf = false := by decide

theorem test_wf_accepts : (Instr.postArrival [false, false, false]).wf = true ∧
    (Instr.postArrival (List.replicate 402 true)).wf = true ∧ (Instr.startSymbol ⟨0, 1⟩).wf = true ∧
    (Instr.startSymbol ⟨0, 48⟩).wf = true ∧
    (Instr.selfCheckCompletion [101] [0] true).wf = true := by decide +kernel

theorem test_no_word_spells_a_command : decodeTableWord 8 0 = none ∧
    (State.reset.withFetchWord 8 0).pending = [] := by decide

/-! ### The manual's figures -/

/-- R2: a QUERY of station 0, number 5, to station 1 for IDENTITY 0, byte by byte. -/
theorem test_query_layout : unchecked 0 5 (.query 1 .identity 0) = [6, 0, 80, 0, 1, 1, 0, 0] := by decide

/-- R2, R6: an ALERT CONTEXT_TAKEN with two arguments has length code 0, with three length code 1 and one fill byte. -/
theorem test_alert_layout : unchecked 1 0 (.alert .contextTaken [6, 2]) = [3, 1, 0, 0, 1, 2, 6, 2] ∧
    unchecked 1 0 (.alert .contextTaken [6, 2, 4]) = [3, 1, 1, 0, 1, 3, 6, 2, 4, 0] := by decide

/-- R1, 1.10: a STATE post takes 236 bit-times, a QUERY 116; a byte of value 0 ends in 9 idle bit-times. -/
theorem test_bit_times : (postLevels (List.replicate 22 255)).length = 236 ∧
    (postLevels (wire 0 5 (.query 1 .identity 0))).length = 116 ∧ idleTail (byteLevels 0) = 9 ∧
    idleTail (byteLevels 1) = 1 := by decide +kernel

/-- 1.11: the STATE posts of stations 1 and 3 first differ at bit-time 33, where station 1 drives idle and station 3
active. -/
theorem test_first_difference : let levels := fun (n : Nat) => startLevels ++ [1, byte n].flatMap byteLevels
    (levels 1).take 33 = (levels 3).take 33 ∧ (levels 1)[33]? = some false ∧ (levels 3)[33]? = some true := by decide

/-- R16: a space bit read active, and a mark bit read idle after a first byte. -/
theorem test_faulty_receptions :
    receiveLevels (false :: false :: (byteLevels 8).dropLast ++ [true]) = some (.framing [8], []) ∧
    receiveLevels (false :: false :: byteLevels 8 ++ [false]) = some (.truncated [8], []) ∧
    receiveLevels (false :: false :: byteLevels 8) = none := by decide

/-- R10: the gaps of an ALERT of station 1, a DEMAND of the host and a REPORT of station 4. -/
theorem test_gaps : gap .alert 1 = 14 ∧ gap .demand 0 = 24 ∧ gap .report 4 = 44 := by decide

/-- R70, the three examples. -/
theorem test_tangents : tangent 80 = 576 ∧ tangent (-123) = -893 ∧ tangent 1 = 7 := by decide

/-- R71, the table at +20 and +450, and the two clamps of its text. -/
theorem test_turn_factors : turnFactor .left 2900 6500 143 = 4159 ∧ turnFactor .right 2900 6500 4096 = 2269 ∧
    turnFactor .left 3500 3000 4096 = 6144 ∧ turnFactor .right 3500 3000 4096 = 2048 := by decide

/-- R75, the table at ±20, ±80 and ±450, and the smallest ceiling of its text. -/
theorem test_turn_ceilings : turnCeiling 200 6500 143 = some 1929 ∧ turnCeiling 200 6500 (-576) = some 961 ∧
    turnCeiling 200 6500 4096 = some 360 ∧ turnCeiling 50 3000 4096 = some 122 := by decide

/-- R110, rows three and five. -/
theorem test_shares : shareOf 2400 2 1200 2100 = 2742 ∧ shareOf 2400 2 900 2100 = 2057 ∧
    shareOf 2400 4 2000 5000 = 3840 := by decide

/-- R123: 1300 kW at 1900 V. -/
theorem test_duty : computedDuty 1300 1000 1900 false = 2475 := by decide

/-- R126: full duty at 2100 V. -/
theorem test_absorbed_power : absorbedPower 4095 2100 1000 = 4408 := by decide

/-- R132, rows of its table. -/
theorem test_offers : offerOfTemp 2000 5100 = 1800 ∧ offerOfTemp 2000 5550 = 900 ∧ offerOfTemp 2000 5999 = 2 ∧
    offerOfTemp 2000 6000 = 0 := by decide

/-- R146, rows of its table. -/
theorem test_derates : derateOf 33000000 = 819 ∧ derateOf 37500000 = 512 ∧ derateOf 42000000 = 204 ∧
    derateOf 44999999 = 0 := by decide

/-- R150, the three payloads of its text. -/
theorem test_payload_classes : classify (some 321) 290 = (some 110, .normal) ∧
    classify (some 322) 290 = (some 111, .heavy) ∧ classify (some 351) 290 = (some 121, .over) := by decide

/-- The demand of 6.9. -/
def descent : DemandRecord := ⟨.forward, false, 0, 800, 80, 900, some 310, some 833⟩

/-- A STATE record of a station in RUN with an offer. -/
def running (offer : Nat) : StateRecord := ⟨.run, .retard, 7, .grip, some 800, some 833, 0, offer, 0, false, none⟩

/-- A FRESH peer entry with a last post of number 4. -/
def fresh (k : PostKind) (c : Contents) : PeerEntry := ⟨.fresh, 0, some k, some 4, 0, c, none⟩

/-- The snapshot of 6.9, with the own offer and the previous output. -/
def descentSnapshot (offer : Nat) (previous : Int) : Snapshot where
  wheelSpeed := 870
  wheelFaulted := false
  linkVoltage := 1800
  linkFaulted := false
  peers := { Peers.absent with e0 := fresh .demand (.demand descent), e2 := fresh .state (.state (running 900)) }
  demand := ⟨descent, .posted, true⟩
  geometry := geometryOf ⟨descent, .posted, true⟩ .left .default
  propelCeiling := 1000
  speedCeiling := none
  offer := offer
  derate := 1024
  payloadClass := .normal
  previous := previous
  vRef := 833
  mode := .retard
  slipFactor := 1024
  persistence := 0
  grip := 255
  shortfall := 0
  opening := false

/-- 6.9, update k: the results of its stages. -/
theorem test_worked_update :
    let u := runStages .default (descentSnapshot 1800 (-2800))
    u.uExp = 885 ∧ u.ceiling = 900 ∧ u.mode = .retard ∧ u.magnitude = 2400 ∧ u.share = 3200 ∧ u.shaped = 3020 ∧
    u.output = -2840 ∧ u.request = 1300 := by decide

/-- 6.9, update k+4: the clamp of the fallen offer. -/
theorem test_worked_update_after_a_capacity_drop :
    let u := runStages .default (descentSnapshot 1200 (-2960))
    u.share = 2742 ∧ u.target = -2588 ∧ u.ramped = -2840 ∧ u.output = -2737 ∧ u.request = 1253 := by decide

/-! ### States for single steps and witnesses -/

/-- A station 1 with a locked default record in a state, every other item at its value of cold reset. -/
def stationIn (x : StationState) : State := { State.reset with
  pins := ⟨false, 1, false, false, false⟩
  station := ⟨x, 1, none, .default, true, 16, true⟩
  meas := { Measurement.cold with converting := some .wheelSpeed } }

/-- The same with a post in the absorber. -/
def absorbing (x : StationState) (p : Post) : State := { stationIn x with
  peers := { PeerView.cold with absorber := some (.good p) } }

/-- A post of the host, number 5. -/
def fromHost (b : Body) : Post := ⟨.s0, 5, b⟩

/-- A post of station 2, number 5. -/
def fromPeer (b : Body) : Post := ⟨.s2, 5, b⟩

/-- A context of a class, its hold run out. -/
def context (c : ProtClass) (ready : Bool) (l : List Channel) : Context := ⟨c, 3, 20, -100, 0, ready, l⟩

/-- The state with a stack above BASE. -/
def stacked (s : State) (l : List Context) : State := { s with prot := { s.prot with stack := l ++ [Context.base] } }

/-- The state with a control update in flight. -/
def updating (s : State) (n : Snapshot) (discarded : Bool) : State :=
  { s with gov := { s.gov with update := some ⟨n, discarded⟩ } }

/-- The state with a reference speed in travel terms. -/
def moving (s : State) (u : Int) : State := { s with gov := { s.gov with uRef := u } }

/-- A FORWARD demand with or without hold request. -/
def drive (hold : Bool) : DemandRecord := ⟨.forward, hold, 500, 0, 0, 3000, some 100, none⟩

/-- What a step leaves, if it answers a next state. -/
def after (o : Host.Outcome State Fault Refusal) : Option State :=
  match o with
  | .next t => some t
  | _ => none

/-! ### Single steps -/

/-- R40: the assertion of the reset line in RUN drops the torque. -/
theorem test_cold_reset :
    (after (exec .coldReset { stationIn .run with gov := { Governor.cold with output := -900 } })).map
      (fun t => (t.station.state, t.gov.output)) = some (.reset, 0) := by decide

/-- R41: straps 4 give station 4 in LISTEN, straps 6 isolate it. -/
theorem test_reset_release :
    (after (exec (.resetRelease 4) State.reset)).map (fun t => (t.station.state, t.station.number))
      = some (.listen, 4) ∧
    (after (exec (.resetRelease 6) State.reset)).map (fun t => (t.station.state, t.station.isolation))
      = some (.isolated, some .strap) := by decide

/-- R20, R42: the receiver's tags of the two test posts of stations 1 and 4. -/
theorem test_self_check_tags : [1, 4].map (fun n => (loopedTag (testPostA n) [], loopedTag (testPostB n) []))
    = [(.check, .untagged), (.check, .untagged)] := by
  decide +kernel

/-- R17, R20: of B, a data bit read wrong gives CHECK, the first mark bit read idle gives FORM. -/
theorem test_disturbed_test_posts : loopedTag (testPostB 1) [60] = .check ∧ loopedTag (testPostB 1) [2] = .form := by
  decide +kernel

/-- R11: the 15th collision in a row leaves the post for a retry, the 16th drops it. -/
theorem test_collision_limit :
    let s := fun (n : Nat) => { stationIn .ready with
      bus := { BusPort.cold with tx := some ⟨orderStopAll, 2, some [4], false⟩, consecutive := n } }
    (after (exec .collision (s 14))).map (fun t => (t.bus.tx.isSome, t.bus.consecutive, t.counters.dropped))
      = some (true, 15, 0) ∧
    (after (exec .collision (s 15))).map (fun t => (t.bus.tx.isSome, t.bus.consecutive, t.counters.dropped))
      = some (false, 0, 1) := by decide

/-- R10: an ALERT of station 1 is sent at 14 bit-times of idle line and not at 13. -/
theorem test_gap_is_met :
    let s := { stationIn .ready with bus := { BusPort.cold with urgent := [.alert .stopTaken []] } }
    (after (exec (.postTransmission 13) s)).map (fun t => t.driving.isSome) = some false ∧
    (after (exec (.postTransmission 14) s)).map (fun t => t.driving.isSome) = some true := by decide

/-- R16: the active runs of 11, 12 and 48 bit-times. -/
theorem test_start_symbols :
    [11, 12, 48].map (fun n => (after (exec (.startSymbol ⟨0, n⟩) (stationIn .run))).map (fun t => t.bus.receiving))
      = [some false, some true, some true] := by decide

/-- R16: after a framing violation a start symbol counts only once the line has been idle for 2 bit-times. -/
theorem test_resynchronisation :
    let s := { stationIn .run with bus := { BusPort.cold with receiving := true } }
    let levels := false :: false :: (byteLevels 8).dropLast ++ [true]
    [1, 2].map (fun n => ((after (exec (.postArrival levels) s)).bind
      (fun t => after (exec (.startSymbol ⟨n, 14⟩) t))).map (fun t => (t.bus.rx, t.bus.receiving)))
      = [some ([.form [8]], false), some ([.form [8]], true)] := by decide

/-- R49, R84: a FORWARD demand starts a READY station, with the opening marker set. -/
theorem test_demand_starts :
    (after (exec .demand (absorbing .ready (fromHost (.demand (drive false)))))).map
      (fun t => (t.station.state, t.gov.opening, t.prot.grace)) = some (.run, true, 3) := by decide

/-- R46: a propel_max of 9999 is stored as 4000 and counted as a clamp. -/
theorem test_config_clamps :
    (after (exec .config { absorbing .commission (fromHost (.config 1 4 9999)) with
      station := ⟨.commission, 1, none, .default, false, 16, true⟩ })).map
      (fun t => (t.station.record.propelMax, t.counters.configClamps)) = some (4000, 1) := by decide

/-- R181: the identity record of station 1, LEFT, in READY, locked, self-check passed. -/
theorem test_identity_record :
    (after (exec .query (absorbing .ready (fromHost (.query 1 .identity 0))))).map (fun t => t.bus.reportSlot)
      = some (some (.report .identity 0 [23, 1, 164, 2, 1, 1, 3, 1, 1, 0, 0])) := by decide

/-- R168: a STOP in READY is pushed; R170: a RELEASE at 31 cm/s is refused, at 30 cm/s it pops the context. -/
theorem test_stop_and_release :
    (after (exec .stop (absorbing .ready (fromPeer (.order .stop 15 0))))).map (fun t => t.prot.top) = some .stop ∧
    [31, 30].map (fun u => (after (exec .release
      (moving (stacked (absorbing .run (fromHost (.order .release 1 0))) [context .stop false []]) u))).map
        (fun t => (t.prot.top, t.counters.refusedOrders))) = [some (.stop, 1), some (.base, 0)] := by decide

/-- R30: ages 2 and 9 become 3 (AGED) and 10 (LOST). -/
theorem test_ageing :
    let entry := fun (n : Nat) => ({ fresh .state (.state (running 0)) with
      age := n, presence := presenceOfAge n } : PeerEntry)
    (after (exec (.postPeriodExpiry false) { stationIn .ready with peers := { PeerView.cold with
      entries := { Peers.absent with e2 := entry 2, e3 := entry 9 } } })).map
      (fun t => (t.peers.entries.e2.presence, t.peers.entries.e3.presence, t.peers.entries.e4.presence))
      = some (.aged, .lost, .absent) := by decide

/-- R43: the 16th expiry takes a locked station to READY and an unlocked one to COMMISSION. -/
theorem test_listen_interval :
    [true, false].map (fun locked => (after (exec (.listenIntervalEnd false) { stationIn .listen with
      station := ⟨.listen, 1, none, .default, locked, 15, true⟩ })).map (fun t => t.station.state))
      = [some .ready, some .commission] := by decide

/-- R143: an expiry in READY cools the winding by 256, not below 0. -/
theorem test_cooling :
    [1000, 100].map (fun a => (after (exec (.controlPeriodExpiry true) { stationIn .ready with
      load := { LoadAccounting.cold with accumulator := a } })).map (fun t => t.load.accumulator))
      = [some 744, some 0] := by decide

/-- 6.9 and R142: the completion of update k drives -2840 TU and 1300 kW; with TORQUE_FB at -1800 the winding's heat is
256, so its accumulator stays. -/
theorem test_update_completion :
    (after (exec .controlUpdateCompletion { updating (stationIn .run) (descentSnapshot 1800 (-2800)) false with
      load := { LoadAccounting.cold with accumulator := 5000 }
      meas := { Measurement.cold with channels := { Measurement.cold.channels with
        torqueFb := { ChannelRecord.cold with value := -1800 } } } })).map
      (fun t => (t.gov.output, t.gov.request, t.load.accumulator)) = some (-2840, 1300, 5000) := by decide

/-- R56, R59: a LINK_VOLTAGE of 2601 V is BAD, and as the eighth in a row faults the channel at 1800 V. -/
theorem test_eighth_bad_result :
    (after (exec (.conversionCompletion 2601) { stationIn .run with meas := { Measurement.cold with
      converting := some .linkVoltage
      channels := { Measurement.cold.channels with linkVoltage := ⟨1700, some 1700, some .bad, 7, 0, false⟩ } } })).map
      (fun t => (t.meas.channels.linkVoltage.faulted, t.meas.channels.linkVoltage.value, t.prot.top))
      = some (true, 1800, .sensorFault) := by decide

/-- R55, R57: a rate of 4211 mrad/s on a tyre of 1900 mm is 800 cm/s; 151 cm/s away from the last good speed it is BAD. -/
theorem test_wheel_speed :
    [650, 649].map (fun g => (after (exec (.conversionCompletion 4211) { stationIn .run with
      meas := { Measurement.cold with
        converting := some .wheelSpeed
        channels := { Measurement.cold.channels with wheelSpeed := ⟨g, some g, some .good, 0, 5, false⟩ } } })).map
      (fun t => t.meas.channels.wheelSpeed.value)) = [some 800, some 649] := by decide

/-- R137: a spin-up that completes with the blowers running establishes its stage, one without raises the fault. -/
theorem test_spin_up :
    [true, false].map (fun b => (after (exec (.spinUpCompletion b) { stationIn .run with
      grid := { Grid.cold with theta := some (2500 * 65536), target := 1, spinUp := some 1 } })).map
      (fun t => (t.grid.established, t.grid.blowerFault))) = [some (1, false), some (0, true)] := by decide

/-- R139: the eighth low-current superframe trips the station with GRID_OPEN. -/
theorem test_grid_open :
    (after (exec (.superframeCompletion true) { stationIn .run with
      grid := { Grid.cold with duty := 1024, latchedVoltage := 1800, openCounter := 7 } })).map
      (fun t => (t.station.state, t.prot.firstCause, t.grid.openCounter)) = some (.tripped, some .gridOpen, 0) := by
  decide

/-- R7, R168: the stop line offers the ORDER STOP before STOP_TAKEN. -/
theorem test_stop_line :
    (after (exec .stopLineAsserted (stationIn .run))).map (fun t => t.bus.urgent)
      = some [.order .stop 15 0, .alert .stopTaken []] := by decide

/-- R173, R175: OVERCURRENT trips a HELD station; in TRIPPED for LINK_HARD it is a further cause. -/
theorem test_power_stage_fault :
    (after (exec .powerStageFault (stationIn .held))).map (fun t => (t.station.state, t.prot.causes))
      = some (.tripped, [.overcurrent]) ∧
    (after (exec .powerStageFault { stationIn .tripped with
      prot := { Protection.cold with firstCause := some .linkHard, causes := [.linkHard] } })).map
      (fun t => (t.prot.firstCause, t.prot.causes)) = some (some .linkHard, [.linkHard, .overcurrent]) := by decide

/-- R48: rule 1 fails before rule 2. -/
theorem test_lock_names_the_first_rule :
    (after (exec (.lock false) { absorbing .commission (fromHost (.order .lock 1 0)) with
      station := ⟨.commission, 1, none,
        { CommRecord.default with controlPeriod := 10, postPeriod := 5, rampDown := 5 }, false, 16, true⟩ })).map
      (fun t => (t.station.state, t.bus.urgent)) = some (.commission, [.alert .configRefused [1]]) := by decide

/-- A step on an empty queue lets one bit-time pass (log 2). -/
theorem test_empty_queue :
    (after (step { stationIn .ready with bus := { BusPort.cold with idleTime := 7 } })).map
      (fun t => (t.bus.idleTime, t.grid.elapsed)) = some (8, 1) := by decide

/-! ### Witnesses: for each statement with hypotheses, states and operands that meet those of each of its clauses -/

theorem witness_LockedRecordStays : (∃ t, exec .lineHeldEnd (stationIn .run) = .next t) ∧
    (stationIn .run).station.locked = true ∧ ∀ k, Instr.lineHeldEnd ≠ .resetRelease k :=
  ⟨⟨_, rfl⟩, by decide, by decide⟩

theorem witness_IsolationAndResetAreLeftOnlySo :
    (∃ t, exec .coldReset (stationIn .isolated) = .next t ∧ t.station.state ≠ .isolated) ∧
    (∃ t, exec (.resetRelease 1) (stationIn .reset) = .next t ∧ t.station.state ≠ .reset) :=
  ⟨⟨_, rfl, by decide⟩, ⟨_, rfl, by decide⟩⟩

/-- A counter at its top, and an isolated station. -/
theorem witness_CountersOnlyGrow :
    (∃ t, exec .powerStageFault { stationIn .run with
      counters := { Counters.zero with overcurrentTrips := 65535 } } = .next t) ∧
    (∃ t, exec .lineHeldEpisode (stationIn .isolated) = .next t) ∧
    (stationIn .isolated).counters.get .stopTakes ≤ 65535 := ⟨⟨_, rfl⟩, ⟨_, rfl⟩, by decide⟩

/-- A station in RUN that begins an update: it has every invariant, and its step answers a next state. -/
def beginning : State := { stationIn .run with
  geo := (stationIn .run).geometry
  pending := [.controlPeriodExpiry true] }

theorem witness_StepKeepsStack : beginning.StackInv ∧ ∃ t, step beginning = .next t := ⟨by decide, _, rfl⟩

theorem witness_StepKeepsStation :
    (beginning.OutputInv ∧ beginning.RecordInv ∧ beginning.LatchInv ∧ beginning.QuietInv) ∧
    ∃ t, step beginning = .next t := by
  refine ⟨⟨⟨by decide, trivial⟩, by decide, by decide, ⟨by decide, trivial⟩⟩, _, rfl⟩

theorem witness_StepKeepsGeometry : beginning.GeometryInv ∧ ∃ t, step beginning = .next t := ⟨by decide, _, rfl⟩

theorem witness_StepKeepsFaultOrder : beginning.FaultOrderInv ∧ ∃ t, step beginning = .next t :=
  ⟨by decide, _, rfl⟩

theorem witness_StepKeepsPeers : beginning.PeerInv ∧ ∃ t, step beginning = .next t := ⟨by decide, _, rfl⟩

theorem witness_StepKeepsQueues : beginning.QueueInv ∧ ∃ t, step beginning = .next t := ⟨by decide, _, rfl⟩

theorem witness_StepKeepsGridAndWinding :
    (beginning.GridInv ∧ beginning.WindingInv ∧ beginning.RecordInv) ∧ ∃ t, step beginning = .next t :=
  ⟨⟨⟨by decide, by decide, by decide, by decide, by decide, by decide, by decide, by decide, by decide, trivial,
    fun _ => rfl⟩, by decide, by decide⟩, _, rfl⟩

theorem witness_SentPostsAreReadBack : (⟨.s2, 15, .state (running 4000)⟩ : Post).seq < 16 ∧
    (Body.state (running 4000)).Sendable ∧ (Body.demand descent).Sendable ∧
    (Body.alert .contextTaken [6, 1, 7]).Sendable ∧ (Body.order .stop 15 0).Sendable ∧
    (Body.config 4 255 65535).Sendable ∧ (Body.query 1 .grid 255).Sendable ∧
    (Body.report .stack 0 [1, 2]).Sendable := by decide

theorem witness_OneByteDifferenceShows : 2 < [6, 1, (0 : Byte)].length ∧ [6, 1, (0 : Byte)][2]? ≠ some 1 := by decide

/-- A reception in progress and the levels of a truncated one; a receive queue of seven and of eight entries; check
bytes that are right for no form, wrong, and right for a good one. -/
theorem witness_ArrivalJoinsTheQueue :
    let s := { stationIn .run with bus := { BusPort.cold with receiving := true } }
    s.station.state.live = true ∧ s.driving = none ∧ s.bus.receiving = true ∧
    receiveLevels [false, false, false] = some (.truncated [], []) ∧
    (List.replicate 7 RxEntry.lineHeld).length < 8 ∧ 8 ≤ (List.replicate 8 RxEntry.lineHeld).length ∧
    [(1 : Byte), 2].length = 2 ∧ crcBytes [8, 1, 0, 0, 1, 1, 0, 0] ≠ [1, 2] ∧
    (crcBytes [8, 1, 0, 0, 1, 1, 0, 0]).length = 2 ∧
    parsePost [8, 1, 0, 0, 1, 1, 0, 0] = none ∧ (parsePost [6, 0, 80, 0, 1, 1, 0, 0]).isSome = true := by
  decide +kernel

/-- An empty queue in RESET and elsewhere. -/
theorem witness_StepRunsFrontCommand : (stationIn .run).pending = [] ∧ (stationIn .run).station.state ≠ .reset ∧
    State.reset.pending = [] ∧ State.reset.station.state = .reset := by decide

theorem witness_LineHeldEpisodes : (stationIn .run).station.state.live = true ∧
    (stationIn .run).bus.lineHeld = false ∧ (stationIn .run).bus.rx.length < 8 ∧
    8 ≤ ({ BusPort.cold with rx := List.replicate 8 .lineHeld } : BusPort).rx.length ∧
    ({ stationIn .run with bus := { BusPort.cold with lineHeld := true } } : State).bus.lineHeld = true := by decide

/-- A receiver that looks for a start symbol, and one that does after one more idle bit-time. -/
theorem witness_StartSymbolBeginsReception :
    let s := { stationIn .listen with bus := { BusPort.cold with looking := false, idleTime := 1 } }
    (stationIn .listen).station.state.live = true ∧ (stationIn .listen).bus.receiving = false ∧
    (stationIn .listen).bus.lineHeld = false ∧ (stationIn .listen).bus.looking = true ∧
    (s.driving = none ∧ 2 ≤ s.bus.idleTime + 1) ∧ (s.bus.looking = false ∧ ¬ 2 ≤ s.bus.idleTime + 0) ∧
    (12 ≤ 12 ∧ 48 ≤ 48) ∧ 11 < 12 := by decide

/-- A bus port with one post in each place, from the register down to the REPORT slot. -/
def waiting (tx : Option TxRegister) (urgent : List Body) (stateSlot reportSlot : Option Body) : State :=
  { stationIn .ready with bus := { BusPort.cold with
    tx := tx, urgent := urgent, stateSlot := stateSlot, reportSlot := reportSlot } }

theorem witness_AttemptBeginsAtTheGap :
    let report : Body := .report .grid 0 []
    let post := Body.state (running 0)
    let s := waiting none [orderStopAll] (some post) (some report)
    let s1 := waiting none [] (some post) (some report)
    let s2 := waiting none [] none (some report)
    let s3 := waiting (some ⟨post, 2, none, false⟩) [] none none
    s.station.state.posts = true ∧ s.bus.lineHeld = false ∧ s.bus.receiving = false ∧ s.driving = none ∧
    s.bus.idleTime = 0 ∧ (s.bus.tx = none ∧ s.bus.urgent = [orderStopAll] ∧ 12 + 2 * 1 ≤ 14) ∧
    (s1.driving = none ∧ s1.bus.tx = none ∧ s1.bus.urgent = [] ∧ s1.bus.stateSlot = some post ∧ 24 + 2 * 1 ≤ 26) ∧
    (s2.driving = none ∧ s2.bus.urgent = [] ∧ s2.bus.stateSlot = none ∧ s2.bus.reportSlot = some report ∧
      36 + 2 * 1 ≤ 38) ∧
    (s3.driving = none ∧ s3.bus.tx = some ⟨post, 2, none, false⟩ ∧ 25 < 24 + 2 * 1) ∧
    s.bus.candidate = some orderStopAll := by decide

/-- A register with an attempt in progress. -/
def sending (consecutive : Nat) (last : Bool) : State := { stationIn .ready with
  bus := { BusPort.cold with tx := some ⟨orderStopAll, 2, some [4], last⟩, consecutive := consecutive } }

theorem witness_TransmissionCompletes : (sending 0 false).station.state.live = true ∧
    (sending 0 false).driving = some [4] := by decide

theorem witness_CollisionOutcomes : (sending 14 false).station.state.live = true ∧
    (sending 14 false).bus.tx = some ⟨orderStopAll, 2, some [4], false⟩ ∧
    (sending 14 false).bus.consecutive + 1 < 16 ∧ 16 ≤ (sending 15 false).bus.consecutive + 1 ∧
    (sending 3 true).bus.tx = some ⟨orderStopAll, 2, some [4], true⟩ := by decide

theorem witness_AbsorptionTakesTheOldest :
    let s := { stationIn .run with bus := { BusPort.cold with rx := [.lineHeld, .check [1]] } }
    s.station.state.live = true ∧ s.peers.absorber = none ∧ s.bus.rx = [.lineHeld, .check [1]] := by decide

/-- An absorber with a marker, the two tags, a duplicate, and an own-number post in LISTEN and later. -/
theorem witness_EntriesNotAccepted :
    let holds := fun (e : RxEntry) => { stationIn .run with peers := { PeerView.cold with absorber := some e } }
    let p := fromPeer (.state (running 0))
    let known := { absorbing .run p with peers := { PeerView.cold with
      absorber := some (.good p)
      entries := { Peers.absent with e2 := { fresh .state (.state (running 0)) with lastSeq := some 5 } } } }
    let own : Post := ⟨.s1, 5, .state (running 0)⟩
    (holds .lineHeld).station.state.live = true ∧ (holds .lineHeld).peers.absorber = some .lineHeld ∧
    (holds (.check [1])).peers.absorber = some (.check [1]) ∧ (holds (.form [1])).peers.absorber = some (.form [1]) ∧
    (Instr.state.about p.body = true ∧ known.peers.absorber = some (.good p) ∧
      p.source.num ≠ known.station.number ∧ (known.peers.entries.get p.source).presence ≠ .absent ∧
      (known.peers.entries.get p.source).lastSeq = some p.seq ∧
      (known.peers.entries.get p.source).lastKind = some p.body.kind) ∧
    (own.source.num = (absorbing .run own).station.number ∧ (absorbing .run own).station.state ≠ .listen) ∧
    (own.source.num = (absorbing .listen own).station.number ∧
      (absorbing .listen own).station.state = .listen) := by decide

/-- Every kind of post, a first post and one of the next number. -/
theorem witness_AcceptedPostRefreshesItsEntry :
    let known := fun (p : Post) => { absorbing .run p with peers := { PeerView.cold with
      absorber := some (.good p), entries := { Peers.absent with e2 := fresh .state (.state (running 0)) } } }
    let p := fromPeer (.state (running 0))
    let q := fromPeer (.alert .stopTaken [])
    let d := fromHost (.demand descent)
    (Instr.state.about p.body = true ∧ (known p).Accepting p ∧ (∀ k, Instr.state ≠ .restart k) ∧
      ((known p).peers.entries.get p.source).lastSeq = some 4 ∧ p.seq < 16 ∧ p.source ≠ .s0) ∧
    (Instr.alert.about q.body = true ∧ (absorbing .run q).Accepting q ∧
      ((absorbing .run q).peers.entries.get q.source).lastSeq = none) ∧
    ((Instr.restart 1).about (fromHost (.order .restart 1 0)).body = true ∧
      (absorbing .run (fromHost (.order .restart 1 0))).Accepting (fromHost (.order .restart 1 0)) ∧
      (absorbing .run (fromHost (.order .restart 1 0))).station.state = .run) ∧
    (Instr.demand.about d.body = true ∧ (absorbing .run d).Accepting d ∧ d.source = .s0) := by decide

theorem witness_PostsThatGoNoFurther :
    [(Instr.state, fromPeer (.state (running 0))), (.alert, fromPeer (.alert .stopTaken [])),
      (.report, fromPeer (.report .grid 0 [])), (.demand, fromPeer (.demand descent)),
      (.config, fromHost (.config 2 1 1)), (.query, fromPeer (.query 1 .grid 0)),
      (.restart 1, fromHost (.order .restart 2 0))].all (fun x =>
        x.1.about x.2.body && decide ((absorbing .run x.2).Accepting x.2) &&
          decide (x.2.GoesNoFurther (absorbing .run x.2))) = true := by decide

theorem witness_DemandStartsAndResumes :
    let p := fun h => fromHost (.demand (drive h))
    ((absorbing .ready (p true)).AcceptingHost (p true) (.demand (drive true)) ∧
      (absorbing .ready (p true)).station.state = .ready ∧ (drive true).direction ≠ .neutral) ∧
    ((absorbing .held (p false)).AcceptingHost (p false) (.demand (drive false)) ∧
      (absorbing .held (p false)).station.state = .held ∧ (drive false).hold = false) ∧
    ((absorbing .held (p true)).AcceptingHost (p true) (.demand (drive true)) ∧
      ¬ ((absorbing .held (p true)).station.state = .ready ∧ (drive true).direction ≠ .neutral) ∧
      ¬ ((absorbing .held (p true)).station.state = .held ∧ (drive true).hold = false)) := by decide

/-- Items 0 and 21, and rolling_radius at its bounds and one beyond each. -/
theorem witness_ConfigItemsAreStored :
    let at0 := fun (item value : Nat) => { absorbing .commission (fromHost (.config 1 item value)) with
      station := ⟨.commission, 1, none, .default, false, 16, true⟩ }
    ((absorbing .ready (fromHost (.config 1 2 1500))).AcceptingHost (fromHost (.config 1 2 1500))
        (.config 1 2 1500) ∧ (absorbing .ready (fromHost (.config 1 2 1500))).station.locked = true) ∧
    ([(0, 5), (21, 5), (2, 1000), (2, 2200), (2, 999), (2, 2201)].all (fun x =>
      decide ((at0 x.1 x.2).AcceptingHost (fromHost (.config 1 x.1 x.2)) (.config 1 x.1 x.2)) &&
        !(at0 x.1 x.2).station.locked) = true) ∧
    itemRange 2 = some (1000, 2200) := by decide

theorem witness_QueryIsAnswered :
    let p := fromHost (.query 1 .stack 255)
    (absorbing .listen p).AcceptingHost p (.query (absorbing .listen p).station.number .stack 255) := by decide

theorem witness_ReportRecordsFit :
    let s := stacked (stationIn .run) [context .stop false [], context .sensorFault false [.wheelSpeed]]
    1 ≤ s.station.number ∧ s.station.number ≤ 4 ∧ s.LatchInv ∧ s.StackInv ∧
    (∀ x ∈ s.prot.stack, x.channels.length ≤ 7) ∧ s.station.record.item 20 = some 417 ∧
    CounterId.ofIndex 18 = some .duplicateOwnNumber ∧ s.prot.stack[2]? = some Context.base := by decide

theorem witness_OrdersOfOthersAreRefused :
    let p := fromPeer (.order .restart 15 0)
    (Instr.restart 1).about p.body = true ∧ (absorbing .ready p).Accepting p ∧
    p.OrderFor (absorbing .ready p) .restart 0 ∧ OrderKind.restart ≠ .stop ∧ p.source ≠ .s0 := by decide

/-- A STOP taken, one during an update, a second one on the stack and a second one deferred. -/
theorem witness_StopOrders :
    let p := fromPeer (.order .stop 15 0)
    let s := absorbing .run p
    let u := updating s (descentSnapshot 0 0) false
    let d : State := { u with prot := { Protection.cold with deferredSet := [.stop] } }
    (s.Accepting p ∧ p.OrderFor s .stop 0 ∧ s.StackInv ∧ s.prot.onStack .stop = false ∧
      .stop ∉ s.prot.deferredSet ∧ s.gov.update = none) ∧
    (u.Accepting p ∧ u.StackInv ∧ u.prot.onStack .stop = false ∧ .stop ∉ u.prot.deferredSet ∧
      u.station.state = .run ∧ u.gov.update.isSome = true) ∧
    ((stacked s [context .stop false []]).Accepting p ∧ (stacked s [context .stop false []]).StackInv ∧
      (stacked s [context .stop false []]).prot.onStack .stop = true) ∧
    (d.Accepting p ∧ d.StackInv ∧ .stop ∈ d.prot.deferredSet) := by
  dsimp only
  repeat' apply And.intro
  all_goals decide

theorem witness_ReleaseOrders :
    let p := fromHost (.order .release 1 0)
    let s := moving (stacked (absorbing .run p) [context .stop false [], context .peerLoss true []]) (-30)
    (s.Accepting p ∧ p.source = .s0 ∧ p.OrderFor s .release 0 ∧ s.StackInv ∧
      s.prot.stack = context .stop false [] :: [context .peerLoss true [], Context.base] ∧
      s.gov.uRef.natAbs ≤ 30 ∧ s.prot.stopLine = false) ∧
    ((moving s 31).Accepting p ∧ (moving s 31).StackInv ∧ 30 < (moving s 31).gov.uRef.natAbs) ∧
    ((absorbing .run p).Accepting p ∧ (absorbing .run p).prot.onStack .stop = false) := by
  dsimp only
  repeat' apply And.intro
  all_goals decide

/-- A SENSOR_FAULT context on top, under another one, with a good-run of 31, with a running hold, and none. -/
theorem witness_AcknowledgeOrders :
    let p := fromHost (.order .acknowledge 15 6)
    let x := context .sensorFault false [.torqueFb]
    let faulted := fun (l : List Context) (good : Nat) => { stacked (absorbing .run p) l with
      meas := { Measurement.cold with
        faultOrder := [.torqueFb]
        channels := { Measurement.cold.channels with torqueFb := ⟨0, some 9, some .good, 0, good, true⟩ } } }
    let s := faulted [x] 32
    let b := faulted [context .slipPersist false [], x] 32
    (s.Accepting p ∧ p.OrderFor s .acknowledge 6 ∧ s.StackInv ∧ s.FaultOrderInv ∧ x ∈ s.prot.stack ∧ x.hold = 0 ∧
      (∀ c ∈ x.channels, 32 ≤ (s.meas.channels.get c).goodRun) ∧ s.prot.top = .sensorFault) ∧
    (b.Accepting p ∧ b.StackInv ∧ b.FaultOrderInv ∧ x ∈ b.prot.stack ∧ b.prot.top ≠ .sensorFault ∧
      b.prot.stack.head?.map Context.clearReady = some false) ∧
    ((faulted [x] 31).Accepting p ∧ (faulted [x] 31).StackInv ∧ (faulted [x] 31).FaultOrderInv ∧
      ∃ c ∈ x.channels, ((faulted [x] 31).meas.channels.get c).goodRun < 32) ∧
    ((faulted [{ x with hold := 1 }] 32).Accepting p ∧ (faulted [{ x with hold := 1 }] 32).StackInv) ∧
    ((absorbing .run p).Accepting p ∧ (absorbing .run p).prot.onStack .sensorFault = false) := by
  dsimp only
  repeat' apply And.intro
  all_goals decide

theorem witness_ClearTripOrders :
    let p := fromHost (.order .clearTrip 1 0)
    let s := fun (l : List TripCause) (v : Int) => { moving (absorbing .tripped p) 30 with
      prot := { Protection.cold with firstCause := l.head?, causes := l }
      meas := { Measurement.cold with channels := { Measurement.cold.channels with
        linkVoltage := { ChannelRecord.cold with value := v } } } }
    ((s [.linkHard] 1999).Accepting p ∧ p.source = .s0 ∧ p.OrderFor (s [.linkHard] 1999) .clearTrip 0 ∧
      (s [.linkHard] 1999).station.state = .tripped ∧ (s [.linkHard] 1999).gov.uRef.natAbs ≤ 30 ∧
      (TripCause.overcurrent ∈ (s [.linkHard] 1999).prot.causes → true = false) ∧
      (s [.linkHard] 1999).meas.channels.linkVoltage.value < 2000) ∧
    (.linkHard ∈ (s [.linkHard] 2000).prot.causes ∧ 2000 ≤ (s [.linkHard] 2000).meas.channels.linkVoltage.value) ∧
    (.overcurrent ∈ (s [.overcurrent] 0).prot.causes ∧ (s [.overcurrent] 0).Accepting p) ∧
    (absorbing .held p).station.state ≠ .tripped ∧ 30 < (moving (s [] 0) 31).gov.uRef.natAbs := by decide

/-- A taken RESTART with and without faults and stop line, with straps that differ, and refused ones. -/
theorem witness_RestartOrders :
    let p := fromHost (.order .restart 1 0)
    let s := moving (absorbing .held p) (-30)
    (s.Accepting p ∧ p.source = .s0 ∧ p.OrderFor s .restart 0 ∧ s.station.state = .held ∧
      s.gov.uRef.natAbs ≤ 30 ∧ (1 : Fin 8).val = s.station.number) ∧
    (2 : Fin 8).val ≠ s.station.number ∧
    ((absorbing .run p).Accepting p ∧ (absorbing .run p).station.state = .run) ∧
    ((moving s 31).Accepting p ∧ 30 < (moving s 31).gov.uRef.natAbs) := by decide

/-- Rules met at equality, rule 1 failing, rule 2 failing, and a station that is not in COMMISSION. -/
theorem witness_LockOrders :
    let p := fromHost (.order .lock 1 0)
    let s := fun (r : CommRecord) => { absorbing .commission p with
      station := ⟨.commission, 1, none, r, false, 16, true⟩ }
    let even : CommRecord := { CommRecord.default with controlPeriod := 10, rampDown := 40 }
    ((s even).Accepting p ∧ p.source = .s0 ∧ p.OrderFor (s even) .lock 0 ∧ (s even).station.state = .commission ∧
      even.controlPeriod ≤ even.postPeriod ∧ even.rampUp ≤ even.rampDown) ∧
    ({ even with postPeriod := 9 } : CommRecord).postPeriod < even.controlPeriod ∧
    ({ even with rampDown := 39 } : CommRecord).rampDown < even.rampUp ∧
    ((absorbing .ready p).Accepting p ∧ (absorbing .ready p).station.state ≠ .commission) := by decide

/-- A class on the stack, one that waits, one deferred, one taken, one that joins the pending set. -/
theorem witness_RaiseOutcomes :
    let s := stacked (stationIn .run) [context .slipPersist false []]
    let u := updating s (descentSnapshot 0 0) false
    let w : State := { s with prot := { s.prot with pendingSet := [.peerLoss] } }
    s.station.state.live = true ∧ ProtClass.slipPersist ≠ .stop ∧ s.prot.onStack .slipPersist = true ∧
    (w.prot.onStack .peerLoss = false ∧ .peerLoss ∈ w.prot.pendingSet) ∧
    (u.prot.onStack .windingHot = false ∧ ProtClass.windingHot.level < u.prot.topLevel ∧
      u.gov.update.isSome = true) ∧
    (s.prot.onStack .windingHot = false ∧ .windingHot ∉ s.prot.pendingSet ∧ .windingHot ∉ s.prot.deferredSet ∧
      ProtClass.windingHot.level < s.prot.topLevel ∧ s.gov.update = none) ∧
    (s.prot.onStack .payloadOver = false ∧ s.prot.topLevel ≤ ProtClass.payloadOver.level) := by decide

theorem witness_PopsAndPendingTakes :
    let s := stacked (stationIn .run) [context .slipPersist true [], context .peerLoss false []]
    let w : State := { stationIn .run with prot := { Protection.cold with pendingSet := [.peerLoss] } }
    (s.prot.stack = context .slipPersist true [] :: [context .peerLoss false [], Context.base] ∧
      (context .slipPersist true []).clearReady = true ∧ ProtClass.slipPersist ≠ .sensorFault) ∧
    ((stacked (stationIn .run) [context .sensorFault true [.torqueFb]]).prot.stack
        = context .sensorFault true [.torqueFb] :: [Context.base] ∧
      (context .sensorFault true [.torqueFb]).cls = .sensorFault) ∧
    (w.prot.stack = Context.base :: [] ∧ Context.base.clearReady = false ∧ w.gov.update = none ∧
      w.prot.pendingSet = .peerLoss :: [] ∧ ProtClass.peerLoss.level < Context.base.cls.level) ∧
    ((stationIn .run).prot.pendingSet.head? = none) ∧
    (updating w (descentSnapshot 0 0) false).gov.update.isSome = true := by decide

theorem witness_LimitsInForce :
    (stacked (stationIn .run) [context .gridHot false [], context .peerLoss false []]).StackInv := by decide

theorem witness_PostPeriodExpiries : (stationIn .held).station.state.posts = true ∧
    (stationIn .listen).station.state = .listen ∧
    (({ stationIn .listen with station := ⟨.listen, 1, none, .default, true, 14, true⟩ } : State).station.listenCounter
      < 15) ∧
    ({ stationIn .listen with station := ⟨.listen, 1, none, .default, true, 15, false⟩ } :
      State).station.selfCheckPassed = false := by decide

theorem witness_ListenIntervalEnds :
    let s : State := { stationIn .listen with station := ⟨.listen, 1, none, .default, true, 15, true⟩ }
    s.station.state = .listen ∧ s.station.listenCounter = 15 := by decide

/-- A driven peer. -/
theorem witness_DemandInForceFollowsPresence :
    (fresh .state (.state (running 5))).drivenRecord = some (running 5) := by decide

/-- A test post being looped, before and after the 16th expiry, locked and unlocked; the four numbers. -/
theorem witness_SelfCheckOutcomes :
    let l : Loopback := ⟨testPostA 1, testPostB 1, none, 115, true⟩
    let s := fun (n : Nat) (locked : Bool) => { stationIn .listen with
      station := ⟨.listen, 1, none, .default, locked, n, false⟩
      bus := { BusPort.cold with loopback := some l } }
    (s 15 true).station.state = .listen ∧ (s 15 true).bus.loopback = some l ∧ l.looping = true ∧ l.tagA = none ∧
    loopedTag l.postA [] = .check ∧ loopedTag l.postB [] = .untagged ∧ loopedTag l.postA [2] ≠ .check ∧
    (s 15 true).station.listenCounter < 16 ∧ (s 16 true).station.listenCounter = 16 ∧
    (s 16 false).station.locked = false ∧ (s 16 true).station.locked = true ∧
    (postLevels l.postA).length ≤ l.sent + 1 ∧ 0 + 1 < (postLevels l.postA).length ∧ 1 ≤ 4 := by
  decide +kernel

theorem witness_ControlPeriodExpiries : (stationIn .run).station.state.live = true ∧
    (stationIn .run).gov.update = none ∧ (stationIn .run).StackInv ∧ (stationIn .run).station.state = .run ∧
    (stationIn .ready).StackInv ∧ (stationIn .ready).station.state ≠ .run := by decide

/-- The worked update of 6.9 in flight. -/
theorem witness_UpdateCompletions :
    let s := updating (stationIn .run) (descentSnapshot 1800 (-2800)) false
    s.station.state = .run ∧ s.gov.update = some ⟨descentSnapshot 1800 (-2800), false⟩ ∧
    (runStages s.station.record (descentSnapshot 1800 (-2800))).output ≠ 0 ∧
    (let d : State := { s with prot := { Protection.cold with deferredSet := [.stop, .windingHot] } }
     d.StackInv ∧ .stop ∈ d.prot.deferredSet) := by decide

/-- An opening update at standstill with the hold-request marker set. -/
theorem witness_HoldIsEntered :
    let n : Snapshot := { descentSnapshot 0 0 with
      demand := ⟨{ descent with frontRef := some (-30) }, .posted, true⟩, opening := true }
    let s : State := { updating (stationIn .run) n false with
      gov := { Governor.cold with update := some ⟨n, false⟩, holdMarker := true } }
    s.station.state = .run ∧ s.gov.update = some ⟨n, false⟩ ∧ (runStages s.station.record n).output = 0 ∧
    (runStages s.station.record n).uRef.natAbs ≤ 30 ∧ s.gov.holdMarker = true ∧
    (let d : State := { s with prot := { Protection.cold with deferredSet := [.stop] } }
     d.StackInv ∧ .stop ∈ d.prot.deferredSet) := by decide

theorem witness_DiscardedUpdates :
    let s := updating (stationIn .tripped) (descentSnapshot 0 0) true
    s.station.state.live = true ∧ s.gov.update = some ⟨descentSnapshot 0 0, true⟩ ∧
    (let d : State := { s with prot := { Protection.cold with deferredSet := [.stop] } }
     d.StackInv ∧ .stop ∈ d.prot.deferredSet) := by decide

/-- A front reference speed, none without and with candidates, of which the greatest in RETARD is the peer's 833; and a
request within its range. -/
theorem witness_StageClauses :
    let n : Snapshot := { descentSnapshot 1800 (-2800) with
      demand := ⟨{ descent with frontRef := none }, .posted, true⟩ }
    let own := (n.wheelSpeed * 4096).tdiv n.geometry.turnFactor
    descent.frontRef = some 833 ∧ n.demand.demand.frontRef = none ∧
    (({ n with wheelFaulted := true, peers := .absent } : Snapshot).peers.driven
      = [] ∧ (n.peers.driven.filterMap (fun x => x.centreSpeed)) = [833]) ∧
    (-3000 ≤ own ∧ own ≤ 3000 ∧ own.natAbs < (833 : Int).natAbs ∧ n.mode = .retard) ∧
    (runStages .default n).mode = .retard ∧
    (runStages .default n).output.natAbs * n.wheelSpeed.natAbs / CommRecord.default.rollingRadius ≤ 12000 := by decide

theorem witness_UpdateResultsInRange : CommRecord.default.InRange ∧
    (-3000 ≤ (descentSnapshot 4000 4000).vRef ∧ (descentSnapshot 4000 4000).vRef ≤ 3000) ∧
    (-3000 ≤ (833 : Int) ∧ (833 : Int) ≤ 3000) ∧
    (2048 ≤ (descentSnapshot 4000 4000).geometry.turnFactor ∧
      (descentSnapshot 4000 4000).geometry.turnFactor ≤ 6144) ∧
    (256 ≤ (descentSnapshot 4000 4000).slipFactor ∧ (descentSnapshot 4000 4000).slipFactor ≤ 1024) ∧
    (descentSnapshot 4000 4000).persistence ≤ 200 ∧ (descentSnapshot 4000 4000).grip ≤ 255 ∧
    (descentSnapshot 4000 4000).shortfall ≤ 40 := by decide

/-- An opening update, the two ramps and an opposite sign, and the STOP context's ceilings. -/
theorem witness_OutputIsRampedAndClamped :
    let n := descentSnapshot 1800 (-2800)
    let u := runStages .default n
    let d := runStages .default (descentSnapshot 1200 (-2960))
    let o := runStages .default (descentSnapshot 1200 500)
    let s := runStages .default { n with speedCeiling := some 0, propelCeiling := 0 }
    { n with opening := true }.opening = true ∧ n.opening = false ∧
    (0 ≤ (-2800) * u.sign * u.target ∧ ((-2800 : Int) * u.sign).natAbs < u.target.natAbs) ∧
    (0 ≤ (-2960) * d.sign * d.target ∧ d.target.natAbs < ((-2960 : Int) * d.sign).natAbs) ∧
    500 * o.sign * o.target < 0 ∧ u.mode = .retard ∧ 0 < s.uRef := by decide

theorem witness_SharesAddUp : 0 < [2000, 2000, 1000, 0].sum ∧ ∀ d ∈ [7, 7], d = 7 := by decide

/-- A GOOD result, one that is LINK_HARD in RUN, TRIPPED and LISTEN, a BAD one, and the eighth BAD one. -/
theorem witness_ConversionsAreJudged :
    let s := fun x => { stationIn x with meas := { Measurement.cold with converting := some .linkVoltage } }
    [StationState.run, .tripped, .listen].all (fun x => (s x).station.state.live &&
      (s x).meas.converting == some .linkVoltage && !(s x).meas.channels.linkVoltage.faulted) = true ∧
    ((plausible .linkVoltage).1 ≤ 2299 ∧ 2299 ≤ (plausible .linkVoltage).2 ∧ ¬ 2300 ≤ (2299 : Int)) ∧
    ((plausible .linkVoltage).1 ≤ 2300 ∧ (2300 : Int) ≤ (plausible .linkVoltage).2) ∧
    ¬ ((2601 : Int) ≤ (plausible .linkVoltage).2) ∧ (s .run).meas.channels.linkVoltage.badRun ≠ 7 ∧
    (⟨1700, some 1700, some .bad, 7, 0, false⟩ : ChannelRecord).badRun = 7 := by decide

theorem witness_GeometryOfTheCurve : CommRecord.default.InRange ∧ (-450 ≤ (450 : Int) ∧ (450 : Int) ≤ 450) := by decide

theorem witness_DutyIsDithered : 4095 ≤ 4095 ∧ (1 ≤ 64 ∧ 64 ≤ 64) ∧ (stationIn .run).station.state ≠ .reset ∧
    (stationIn .run).grid.duty = 0 := by decide

theorem witness_ThermalModelsAndDerates : ((500 : Int) ≤ 12000) ∧ 1299 ≤ 1300 ∧ (5000 : Int) ≤ 6000 ∧
    30000000 ≤ 30000001 ∧ 44999999 ≤ 45000000 := by decide

/-- A superframe that is not low in current, and an eighth one that is, in RUN, TRIPPED and LISTEN, with a spin-up in
flight and without. -/
theorem witness_SuperframeCompletions :
    let s := fun x => { stationIn x with grid := { Grid.cold with duty := 1024, openCounter := 7 } }
    (stationIn .run).station.state ≠ .reset ∧ (stationIn .run).grid.spinUp = none ∧
    ¬ (7 ≤ (stationIn .run).grid.openCounter) ∧
    [StationState.run, .tripped, .listen].all (fun x => decide ((s x).station.state = x ∧
      (s x).meas.channels.gridCurrent.faulted = false ∧ (s x).grid.counted = true ∧ 1024 ≤ (s x).grid.duty ∧
      (s x).grid.currentLow = true ∧ 7 ≤ (s x).grid.openCounter)) = true ∧
    ({ Grid.cold with target := 1, spinUp := some 60 } : Grid).spinUp ≠ none := by decide

theorem witness_SpinUpCompletions : (stationIn .run).station.state ≠ .reset ∧
    ({ Grid.cold with target := 1, spinUp := some 1 } : Grid).spinUp = some 1 ∧
    (({ Grid.cold with target := 1, spinUp := some 2 } : Grid).spinUp = some 2 ∧ 2 ≤ 2) := by decide

theorem witness_StopLineEvents :
    let s := stationIn .run
    let u := updating s (descentSnapshot 0 0) false
    s.station.state.live = true ∧ s.pins.stopLine = false ∧
    (s.prot.onStack .stop = false ∧ .stop ∉ s.prot.deferredSet ∧ .stop ∉ s.prot.pendingSet ∧ s.gov.update = none) ∧
    (u.station.state = .run ∧ u.gov.update.isSome = true ∧ u.prot.onStack .stop = false) ∧
    (stacked s [context .stop false []]).prot.onStack .stop = true := by decide

theorem witness_PowerStageFaults : [StationState.run, .ready, .held, .tripped, .listen, .commission, .reset,
    .isolated].map (fun x => (stationIn x).station.state)
      = [.run, .ready, .held, .tripped, .listen, .commission, .reset, .isolated] := by decide

theorem witness_ColdResets : (stationIn .run).station.state = .run ∧ (stationIn .held).station.state ≠ .run := by decide

theorem witness_ResetReleases : State.reset.station.state = .reset ∧ (1 ≤ (4 : Fin 8).val ∧ (4 : Fin 8).val ≤ 4) ∧
    5 ≤ (5 : Fin 8).val ∧ (0 : Fin 8).val = 0 := by decide

end Sys2Proof.Tests
end

section
/-! SUPPORT. The acceptance of a post and the report of R31 that ends it, seen from outside: judging PAYLOAD_OVER and
PEER_LOSS leaves everything else of the protection unit alone and does not read what the report itself writes, so that
`State.ReportFollows` holds of it. -/

namespace Sys2Proof.Machine

/-! ### A reported class is invisible among the classes that the report does not judge -/

section
variable {c : ProtClass} (hc : ¬ c.NotReported)
include hc

theorem filter_notReported_erase (l : List ProtClass) :
    (l.erase c).filter (fun d => decide d.NotReported) = l.filter (fun d => decide d.NotReported) := by
  rw [← List.erase_filter]
  exact List.erase_of_not_mem fun h => hc (of_decide_eq_true (List.mem_filter.1 h).2)

theorem filter_notReported_insertClass (l : List ProtClass) :
    (insertClass c l).filter (fun d => decide d.NotReported) = l.filter (fun d => decide d.NotReported) := by
  induction l with
  | nil => exact List.filter_cons_of_neg (mt of_decide_eq_true hc)
  | cons d rest ih =>
    unfold insertClass
    split
    · rfl
    · split
      · exact List.filter_cons_of_neg (mt of_decide_eq_true hc)
      · simp only [List.filter_cons, ih]

theorem filter_notReported_refresh (ch : Option Channel) (l : List Context) :
    (l.map (fun x => if x.cls = c then x.refresh ch else x)).filter (fun x => decide x.cls.NotReported)
      = l.filter (fun x => decide x.cls.NotReported) := by
  induction l with
  | nil => rfl
  | cons x rest ih =>
    by_cases hx : x.cls = c
    · have hr : ¬ (x.refresh ch).cls.NotReported := fun h => hc (hx ▸ h)
      rw [List.map_cons, if_pos hx, List.filter_cons_of_neg (by exact mt of_decide_eq_true hr),
        List.filter_cons_of_neg (by exact mt of_decide_eq_true (hx ▸ hc)), ih]
    · rw [List.map_cons, if_neg hx, List.filter_cons, List.filter_cons, ih]

end

/-! ### What a raise of a reported class keeps -/

/-- What the judgements of a report keep of the records they touch, beside what `BusPort.rest`, `Protection.rest` and
`Counters.rest` hold. -/
structure State.ReportKeeps (a t : State) : Prop where
  urgent : a.bus.urgent <+: t.bus.urgent
  stopTakes : t.counters.stopTakes = a.counters.stopTakes
  stack : t.prot.stack.filter (fun x => decide x.cls.NotReported)
    = a.prot.stack.filter (fun x => decide x.cls.NotReported)
  pendingSet : t.prot.pendingSet.filter (fun c => decide c.NotReported)
    = a.prot.pendingSet.filter (fun c => decide c.NotReported)
  deferredSet : t.prot.deferredSet.filter (fun c => decide c.NotReported)
    = a.prot.deferredSet.filter (fun c => decide c.NotReported)

theorem State.ReportKeeps.refl (a : State) : a.ReportKeeps a :=
  ⟨List.prefix_refl _, rfl, rfl, rfl, rfl⟩

theorem State.ReportKeeps.trans {a b t : State} (h : a.ReportKeeps b) (k : b.ReportKeeps t) : a.ReportKeeps t :=
  ⟨h.urgent.trans k.urgent, k.stopTakes.trans h.stopTakes, k.stack.trans h.stack, k.pendingSet.trans h.pendingSet,
    k.deferredSet.trans h.deferredSet⟩

theorem State.offerUrgent_reportKeeps (s : State) (b : Body) : s.ReportKeeps (s.offerUrgent b) := by
  obtain ⟨-, h⟩ | ⟨-, -, h⟩ | ⟨-, -, h⟩ := s.offerUrgent_cases b <;> rw [h]
  · exact .refl s
  · exact ⟨List.prefix_append _ _, rfl, rfl, rfl, rfl⟩
  · exact ⟨List.prefix_refl _, rfl, rfl, rfl, rfl⟩

section
variable {c : ProtClass} (s : State) (hc : ¬ c.NotReported)
include hc

theorem State.take_reportKeeps : s.ReportKeeps (s.take c) := by
  have hs : c ≠ .stop := fun h => hc (by subst h; decide)
  have push : s.ReportKeeps { s with prot := { s.prot with
      stack := s.newContext c :: s.prot.stack, pendingSet := s.prot.pendingSet.erase c } } :=
    ⟨List.prefix_refl _, rfl, List.filter_cons_of_neg (mt of_decide_eq_true hc),
      filter_notReported_erase hc _, rfl⟩
  simpa only [State.take, if_neg hs] using push.trans (State.offerUrgent_reportKeeps _ _)

theorem State.raiseWith_reportKeeps (inFlight : Bool) (ch : Option Channel) :
    s.ReportKeeps (s.raiseWith inFlight c ch) := by
  obtain ⟨-, h⟩ | ⟨-, -, h⟩ | ⟨-, -, -, -, -, h⟩ | ⟨-, -, -, -, -, h⟩ | ⟨-, -, -, -, h⟩ :=
    s.raiseWith_cases inFlight c ch <;> rw [h]
  · exact ⟨List.prefix_refl _, rfl, filter_notReported_refresh hc ch _, rfl, rfl⟩
  · exact .refl s
  · exact ⟨List.prefix_refl _, rfl, rfl, rfl, filter_notReported_insertClass hc _⟩
  · exact s.take_reportKeeps hc
  · exact ⟨List.prefix_refl _, rfl, rfl, filter_notReported_insertClass hc _, rfl⟩

theorem State.withdraw_reportKeeps : s.ReportKeeps (s.withdraw c) :=
  ⟨List.prefix_refl _, rfl, rfl, filter_notReported_erase hc _, rfl⟩

theorem State.judge_reportKeeps (holds : Bool) : s.ReportKeeps (s.judge c holds) := by
  unfold State.judge State.raise
  split
  · split
    · exact s.raiseWith_reportKeeps hc _ _
    · exact .refl s
  · split
    · exact s.withdraw_reportKeeps hc
    · exact .refl s

end

/-! ### A raise does not read what a report writes -/

/-- The state with the load accounting, the report counter and the geometry record replaced: what a report of R31 and
the recomputation before it write. -/
def State.withReport (s : State) (l : LoadAccounting) (n : Nat) (g : Geometry) : State :=
  { s with load := l, reports := n, geo := g }

section
variable (s : State) (l : LoadAccounting) (n : Nat) (g : Geometry)

theorem State.offerUrgent_withReport (b : Body) :
    (s.withReport l n g).offerUrgent b = (s.offerUrgent b).withReport l n g := by
  unfold State.offerUrgent
  simp only [apply_ite (fun t : State => t.withReport l n g)]
  rfl

theorem State.take_withReport (c : ProtClass) : (s.withReport l n g).take c = (s.take c).withReport l n g := by
  have h := State.offerUrgent_withReport { s with prot := { s.prot with
    stack := s.newContext c :: s.prot.stack, pendingSet := s.prot.pendingSet.erase c } } l n g
    (takeAlert c (s.newContext c).channels)
  unfold State.take
  split
  · exact congrArg (fun t => t.bump .stopTakes) h
  · exact h

theorem State.raiseWith_withReport (f : Bool) (c : ProtClass) (ch : Option Channel) :
    (s.withReport l n g).raiseWith f c ch = (s.raiseWith f c ch).withReport l n g := by
  unfold State.raiseWith
  rw [State.take_withReport]
  simp only [apply_ite (fun t : State => t.withReport l n g)]
  rfl

theorem State.judge_withReport (c : ProtClass) (holds : Bool) :
    (s.withReport l n g).judge c holds = (s.judge c holds).withReport l n g := by
  have h := s.raiseWith_withReport l n g s.inFlight c none
  unfold State.judge State.raise
  simp only [apply_ite (fun t : State => t.withReport l n g), ← h]
  rfl

end

/-! ### The report of R31 -/

theorem BusPort.eq_of_rest {a t : BusPort} (h : t.rest = a.rest) : t = { a with urgent := t.urgent } := by
  cases a; cases t
  simpa [BusPort.rest] using h

theorem Protection.eq_of_rest {a t : Protection} (h : t.rest = a.rest) :
    t = { a with stack := t.stack, pendingSet := t.pendingSet, deferredSet := t.deferredSet } := by
  cases a; cases t
  simpa [Protection.rest] using h

theorem Counters.eq_of_rest {a t : Counters} (h : t.rest = a.rest) (hs : t.stopTakes = a.stopTakes) :
    t = { a with urgentOverflows := t.urgentOverflows } := by
  cases a; cases t
  simp only [Counters.rest, Counters.mk.injEq] at h hs ⊢
  tauto

/-- PEER_LOSS as R159 words it. -/
theorem State.peerLoss_eq (s : State) : s.peerLoss = decide ((s.station.state = .run ∨ s.station.state = .held) ∧
    s.usableCount < s.station.record.minDriven ∧ s.prot.grace = 0) := by
  unfold State.peerLoss
  cases s.station.state <;> simp [StationState.driven, beq_eq_decide]

/-- The payload of the demand in force is classed OVER (R150, R159). -/
def State.overloaded (s : State) : Bool :=
  (classify s.demand.demand.payload s.station.record.ratedPayload).2 == .over

/-- The report of R31 after a change of the geometry record, as judgements of the state before it. -/
theorem State.report31_eq {a : State} (live : a.station.state.live = true) (g : Geometry) :
    ({ a with geo := g } : State).report31 = State.withReport
      (if a.overloaded && a.peerLoss && !Config.payloadFirst a.reports then
        (a.judge .peerLoss a.peerLoss).judge .payloadOver a.overloaded
      else (a.judge .payloadOver a.overloaded).judge .peerLoss a.peerLoss)
      a.classifyPayload.load (a.reports + 1) g := by
  simp only [apply_ite (fun t : State => t.withReport a.classifyPayload.load (a.reports + 1) g),
    ← State.judge_withReport]
  exact if_neg (by simp [live])

/-- Judging PAYLOAD_OVER and PEER_LOSS, in the order that the statements allow, is a report of R31. -/
theorem State.reportFollows_of_judged {a u : State} (n : Nat) (g : Geometry)
    (judged : u = (a.judge .payloadOver a.overloaded).judge .peerLoss a.peerLoss ∨
      a.overloaded = true ∧ a.peerLoss = true ∧
        u = (a.judge .peerLoss a.peerLoss).judge .payloadOver a.overloaded) :
    State.ReportFollows a (u.withReport a.classifyPayload.load n g) := by
  have overReported : ¬ ProtClass.payloadOver.NotReported := by decide
  have lossReported : ¬ ProtClass.peerLoss.NotReported := by decide
  have keeps : a.ReportKeeps u := by
    obtain rfl | ⟨-, -, rfl⟩ := judged
    · exact (a.judge_reportKeeps overReported _).trans (State.judge_reportKeeps _ lossReported _)
    · exact (a.judge_reportKeeps lossReported _).trans (State.judge_reportKeeps _ overReported _)
  have frame : u.pins = a.pins ∧ u.station = a.station ∧ u.peers = a.peers ∧ u.meas = a.meas ∧ u.gov = a.gov ∧
      u.grid = a.grid ∧ u.pending = a.pending ∧ u.bus.rest = a.bus.rest ∧ u.prot.rest = a.prot.rest ∧
      u.counters.rest = a.counters.rest := by
    obtain rfl | ⟨-, -, rfl⟩ := judged <;> simp
  obtain ⟨pins, station, peers, meas, gov, grid, pending, bus, prot, counters⟩ := frame
  refine ⟨pins, station, peers, meas, gov, grid, pending, rfl, ?_, BusPort.eq_of_rest bus, keeps.urgent,
    Counters.eq_of_rest counters keeps.stopTakes, Protection.eq_of_rest prot, keeps.stack, keeps.pendingSet,
    keeps.deferredSet⟩
  rw [← a.peerLoss_eq]
  obtain rfl | ⟨isOver, isLost, rfl⟩ := judged
  · exact .inl ⟨rfl, rfl, rfl⟩
  · exact .inr ⟨isOver, isLost, rfl, rfl, rfl⟩

theorem State.report31_reportFollows {a : State} (live : a.station.state.live = true) (g : Geometry) :
    State.ReportFollows a ({ a with geo := g } : State).report31 := by
  rw [State.report31_eq live]
  refine State.reportFollows_of_judged _ _ ?_
  split
  next both =>
    simp only [Bool.and_eq_true] at both
    obtain ⟨⟨isOver, isLost⟩, -⟩ := both
    exact .inr ⟨isOver, isLost, rfl⟩
  next => exact .inl rfl

/-- What follows the acceptance of a post of the host (R31, R67): the geometry record is recomputed and a report
is made. -/
theorem State.afterAcceptance_host {a : State} (live : a.station.state.live = true) :
    (a.afterAcceptance .s0).geo = (a.afterAcceptance .s0).geometry ∧
      State.ReportFollows a (a.afterAcceptance .s0) := by
  have after : a.afterAcceptance .s0 = a.recomputeGeometry.report31 := by
    simp [State.afterAcceptance, live]
  rw [after]
  exact ⟨by simp [State.geometry, State.demand, State.side, State.recomputeGeometry],
    State.report31_reportFollows live a.geometry⟩

/-! ### The completion of an accepted post -/

theorem State.completeAbsorption_of_accepting {s : State} {p : Post} {about : Body → Bool}
    {route : Post → State → State} (h : s.Accepting p) (ha : about p.body = true) :
    s.completeAbsorption about route = (route p (s.freeAbsorber.acceptPost p)).afterAcceptance p.source := by
  obtain ⟨live, absorbed, foreign, fresh⟩ := h
  have new : (s.peers.entries.get p.source).isDuplicate p.body.kind p.seq = false := by
    simpa [PeerEntry.isDuplicate] using fresh
  simp [State.completeAbsorption, State.absorb, absorbed, live, ha, foreign, new]

end Sys2Proof.Machine
end

section
/-! SUPPORT. CONFIG posts (R46): the commissioning items one by one, what station control does with an item, and the
statement on them. -/

namespace Sys2Proof.Machine

/-! ### Commissioning items -/

/-- The item numbers are 1 to 20 (R45). -/
theorem itemRange_eq_none {n : Nat} (h : n = 0 ∨ 20 < n) : itemRange n = none := by
  unfold itemRange
  split <;> first | omega | rfl

theorem itemRange_ordered {n lo hi : Nat} (h : itemRange n = some (lo, hi)) : lo ≤ hi := by
  unfold itemRange at h
  split at h <;> cases h <;> decide

theorem CommRecord.item_setItem_same (r : CommRecord) (v : Nat) {n : Nat} (low : 1 ≤ n) (high : n ≤ 20) :
    (r.setItem v n).item n = some v := by
  interval_cases n <;> rfl

theorem CommRecord.item_setItem_other (r : CommRecord) (v : Nat) {n m : Nat} (h : m ≠ n) :
    (r.setItem v n).item m = r.item m := by
  unfold CommRecord.setItem
  split <;> (unfold CommRecord.item; split <;> first | rfl | exact absurd rfl h)

/-! ### Station control's handling of an item (R46) -/

section
variable {s : State} {item value lo hi : Nat}

@[simp] theorem State.configItem_state (i v : Nat) : (s.configItem i v).station.state = s.station.state := by
  unfold State.configItem
  dsimp only
  repeat' split
  all_goals rfl

theorem State.configItem_locked (h : s.station.locked = true) :
    s.configItem item value = { s with counters := s.counters.bump .configAfterLock } := if_pos h

theorem State.configItem_unnamed (h : s.station.locked = false) (unnamed : itemRange item = none) :
    s.configItem item value = { s with counters := s.counters.bump .configClamps } := by
  simp [State.configItem, h, unnamed, State.bump]

/-- An item that has a range, unlocked: the clamped value is stored, and a value that the clamp changes is counted. -/
theorem State.configItem_named (h : s.station.locked = false) (range : itemRange item = some (lo, hi)) :
    s.configItem item value =
      let t : State := { s with station := { s.station with
        record := s.station.record.setItem (clampNat lo hi value) item } }
      if clampNat lo hi value = value then t else t.bump .configClamps := by
  simp [State.configItem, h, range]

theorem State.configItem_inRange (h : s.station.locked = false) (range : itemRange item = some (lo, hi))
    (low : lo ≤ value) (high : value ≤ hi) : s.configItem item value =
      { s with station := { s.station with record := s.station.record.setItem value item } } := by
  have clamped : clampNat lo hi value = value := by simp only [clampNat]; omega
  simp [State.configItem_named h range, clamped]

theorem State.configItem_below (h : s.station.locked = false) (range : itemRange item = some (lo, hi))
    (low : value < lo) : s.configItem item value =
      { s with
        station := { s.station with record := s.station.record.setItem lo item }
        counters := s.counters.bump .configClamps } := by
  have clamped : clampNat lo hi value = lo := by simp only [clampNat]; have := itemRange_ordered range; omega
  simp [State.configItem_named h range, clamped, low.ne', State.bump]

theorem State.configItem_above (h : s.station.locked = false) (range : itemRange item = some (lo, hi))
    (high : hi < value) : s.configItem item value =
      { s with
        station := { s.station with record := s.station.record.setItem hi item }
        counters := s.counters.bump .configClamps } := by
  have clamped : clampNat lo hi value = hi := by simp only [clampNat]; have := itemRange_ordered range; omega
  simp [State.configItem_named h range, clamped, high.ne, State.bump]

end

/-! ### CONFIG -/

/-- An accepted CONFIG of the host for this station hands the item to station control, and a report follows (R29, R31,
R46). -/
theorem exec_config_of_acceptingHost {s : State} {p : Post} {item value : Nat}
    (h : s.AcceptingHost p (.config s.station.number item value)) :
    ∃ t, exec .config s = .next t ∧ t.geo = t.geometry ∧
      State.ReportFollows (State.configItem { s with peers := t.peers } item value) t := by
  obtain ⟨accepting, source, body⟩ := h
  have routed : routeConfig p (s.freeAbsorber.acceptPost p)
      = (s.freeAbsorber.acceptPost p).configItem item value := by
    simp [routeConfig, source, body]
  have run : exec .config s = .next (s.completeAbsorption (fun b => b.kind == .config) routeConfig) := rfl
  rw [State.completeAbsorption_of_accepting accepting (by rw [body]; rfl), routed, source] at run
  have live : ((s.freeAbsorber.acceptPost p).configItem item value).station.state.live = true := by
    obtain ⟨alive, -⟩ := accepting
    simpa using alive
  obtain ⟨geo, follows⟩ := State.afterAcceptance_host live
  refine ⟨_, run, geo, ?_⟩
  have ⟨_, _, peers, _⟩ := follows
  rw [State.configItem_peers] at peers
  rw [peers]
  exact follows

end Sys2Proof.Machine

open Sys2Proof Sys2Proof.Machine

/-- Settles O28: an accepted item is a `configItem` followed by a report, and `configItem` has one equation for the
lock, for a number that names no item, and for the three places of a value by its range. -/
theorem configItemsAreStored : Obligations.ConfigItemsAreStored := by
  refine ⟨fun s p item value accepting => ?_, fun r n m v low high => ?_⟩
  · obtain ⟨t, run, geo, follows⟩ := exec_config_of_acceptingHost accepting
    refine ⟨fun locked => ?_, fun unlocked unnamed => ?_, fun lo hi unlocked range =>
      ⟨fun low high => ?_, fun low => ?_, fun high => ?_⟩⟩ <;> refine ⟨t, run, geo, ?_⟩
    · rwa [State.configItem_locked (by exact locked)] at follows
    · rwa [State.configItem_unnamed (by exact unlocked) (itemRange_eq_none unnamed)] at follows
    · rwa [State.configItem_inRange (by exact unlocked) range low high] at follows
    · rwa [State.configItem_below (by exact unlocked) range low] at follows
    · rwa [State.configItem_above (by exact unlocked) range high] at follows
  · split
    next same => rw [same, r.item_setItem_same v low high]
    next other => exact r.item_setItem_other v other

end

section
/-! SUPPORT. The geometry of the curve (R70 to R76): one equation or bound for each function that the geometry record
is computed with, and the statement on the record. -/

namespace Sys2Proof.Machine

/-! ### Tangent (R69, R70) -/

/-- The case without a remainder is the interpolation too. -/
theorem tangentMagnitude_eq (a : Nat) : tangentMagnitude a =
    tangentEntry (a / 10) + (tangentEntry (a / 10 + 1) - tangentEntry (a / 10)) * (a % 10) / 10 := by
  have remainder : a - 10 * (a / 10) = a % 10 := by omega
  simp only [tangentMagnitude, remainder]
  split
  next whole => simp [whole]
  next => rfl

/-- A degree adds at least as much to the tangent as the first degree does. -/
theorem tangentEntry_add_le_succ : ∀ k < 45, tangentEntry k + 71 ≤ tangentEntry (k + 1) := by decide

theorem tangentEntry_le : ∀ k ≤ 45, tangentEntry k ≤ 4096 := by decide

theorem le_tangentEntry : ∀ k ≤ 45, 1 ≤ k → 71 ≤ tangentEntry k := by decide

theorem tangentMagnitude_le {a : Nat} (legal : a ≤ 450) : tangentMagnitude a ≤ 4096 := by
  rw [tangentMagnitude_eq]
  obtain rfl | below := legal.eq_or_lt
  · decide
  · have entry := tangentEntry_le (a / 10 + 1) (by omega)
    have rise := tangentEntry_add_le_succ (a / 10) (by omega)
    have part : (tangentEntry (a / 10 + 1) - tangentEntry (a / 10)) * (a % 10) / 10
        ≤ tangentEntry (a / 10 + 1) - tangentEntry (a / 10) :=
      Nat.div_le_of_le_mul (by rw [mul_comm]; exact Nat.mul_le_mul_right _ (by omega))
    omega

/-- From one degree on the entry alone is enough; below, a tenth of the first degree is. -/
theorem le_tangentMagnitude {a : Nat} (turned : 1 ≤ a) (legal : a ≤ 450) : 7 ≤ tangentMagnitude a := by
  rw [tangentMagnitude_eq]
  obtain small | degrees := Nat.lt_or_ge a 10
  · have first : tangentEntry (0 + 1) - tangentEntry 0 = 71 := by decide
    rw [Nat.div_eq_of_lt small, Nat.mod_eq_of_lt small, first]
    omega
  · have entry := le_tangentEntry (a / 10) (by omega) (by omega)
    omega

@[simp] theorem tangent_zero : tangent 0 = 0 := rfl

theorem tangent_neg (steer : Int) : tangent (-steer) = -tangent steer := by
  simp [tangent]

theorem natAbs_tangent (steer : Int) : (tangent steer).natAbs = tangentMagnitude steer.natAbs := by
  obtain rfl | turned := eq_or_ne steer 0
  · rfl
  · simp [tangent, Int.natAbs_mul, Int.natAbs_sign_of_ne_zero turned]

theorem natAbs_tangent_bounds {steer : Int} (low : -450 ≤ steer) (high : steer ≤ 450) (turned : steer ≠ 0) :
    7 ≤ (tangent steer).natAbs ∧ (tangent steer).natAbs ≤ 4096 := by
  rw [natAbs_tangent]
  exact ⟨le_tangentMagnitude (by omega) (by omega), tangentMagnitude_le (by omega)⟩

theorem tangent_eq_zero_iff {steer : Int} (low : -450 ≤ steer) (high : steer ≤ 450) :
    tangent steer = 0 ↔ steer = 0 := by
  refine ⟨fun zero => ?_, fun straight => by rw [straight, tangent_zero]⟩
  by_contra turned
  have bounds := natAbs_tangent_bounds low high turned
  omega

/-! ### Turn factor, role and differential (R71, R72, R76) -/

theorem clampInt_bounds {lo hi : Int} (h : lo ≤ hi) (x : Int) : lo ≤ clampInt lo hi x ∧ clampInt lo hi x ≤ hi :=
  ⟨le_max_left _ _, max_le h (min_le_left _ _)⟩

theorem turnFactor_bounds (side : Side) (halfTrack wheelbase : Nat) (tanT : Int) :
    2048 ≤ turnFactor side halfTrack wheelbase tanT ∧ turnFactor side halfTrack wheelbase tanT ≤ 6144 :=
  clampInt_bounds (by decide) _

@[simp] theorem turnFactor_zero (side : Side) (halfTrack wheelbase : Nat) :
    turnFactor side halfTrack wheelbase 0 = 4096 := by
  simp [turnFactor, clampInt]

@[simp] theorem roleOf_zero (side : Side) : roleOf side 0 = .straight := rfl

@[simp] theorem differential_disabled (tanT : Int) : differential false tanT = 0 := rfl

theorem differential_le (enabled : Bool) (tanT : Int) : differential enabled tanT ≤ 150 := by
  cases enabled
  case false => simp
  case true => exact min_le_left _ _

/-! ### Turn ceiling (R75) -/

/-- Setting the bits below 2 ^ n from the highest down, each where the square still fits, arrives at m, when m is
within reach and a square in reach fits just when its root is at most m. -/
theorem foldl_bits_eq {x m : Nat} (n v : Nat) (low : v ≤ m) (high : m < v + 2 ^ n)
    (fits : ∀ u < v + 2 ^ n, u * u ≤ x ↔ u ≤ m) :
    ((List.range n).reverse.map (2 ^ ·)).foldl (fun v b => if (v + b) * (v + b) ≤ x then v + b else v) v = m := by
  induction n generalizing v with
  | zero =>
    rw [pow_zero] at high
    exact (show v = m by omega)
  | succ n ih =>
    rw [pow_succ] at high fits
    have positive : 0 < 2 ^ n := Nat.two_pow_pos n
    rw [List.range_succ, List.reverse_append, List.reverse_singleton, List.singleton_append, List.map_cons,
      List.foldl_cons]
    simp only [fits (v + 2 ^ n) (by omega)]
    split
    next taken => exact ih (v + 2 ^ n) taken (by omega) (fun u reach => fits u (by omega))
    next omitted => exact ih v low (by omega) (fun u reach => fits u (by omega))

/-- The bitwise search is the whole square root, as far as 12 bits reach. -/
theorem rootBelow4096_eq (x : Nat) : rootBelow4096 x = min 4095 x.sqrt := by
  refine foldl_bits_eq 12 0 (Nat.zero_le _) (by omega) (fun u reach => ?_)
  rw [← Nat.le_sqrt]
  omega

@[simp] theorem turnCeiling_zero (lateralLimit wheelbase : Nat) : turnCeiling lateralLimit wheelbase 0 = none := rfl

/-- The cap of 3000 is below what the 12 bits reach, so the ceiling is the capped square root. -/
theorem turnCeiling_of_ne_zero (lateralLimit wheelbase : Nat) {tanT : Int} (turned : tanT ≠ 0) :
    turnCeiling lateralLimit wheelbase tanT =
      some (min 3000 (lateralLimit * wheelbase * 4096 / (10 * tanT.natAbs)).sqrt) := by
  rw [turnCeiling, if_neg turned, rootBelow4096_eq, ← min_assoc]
  rfl

theorem min_sqrt_mul_self_le (cap x : Nat) : min cap x.sqrt * min cap x.sqrt ≤ x :=
  (Nat.mul_self_le_mul_self (min_le_right _ _)).trans x.sqrt_le

theorem lt_succ_min_sqrt_mul_self {cap x : Nat} (uncapped : min cap x.sqrt < cap) :
    x < (min cap x.sqrt + 1) * (min cap x.sqrt + 1) := by
  rw [min_eq_right (by omega)]
  exact x.lt_succ_sqrt

/-- X is smallest for the smallest lateral limit and wheelbase and the largest tangent. -/
theorem le_turnRadicand {lateralLimit wheelbase t : Nat} (limit : 50 ≤ lateralLimit) (base : 3000 ≤ wheelbase)
    (turned : 0 < t) (legal : t ≤ 4096) : 15000 ≤ lateralLimit * wheelbase * 4096 / (10 * t) := by
  rw [Nat.le_div_iff_mul_le (by omega)]
  calc 15000 * (10 * t) ≤ 50 * 3000 * 4096 := by omega
    _ ≤ lateralLimit * wheelbase * 4096 := by gcongr

theorem le_sqrt_turnRadicand {lateralLimit wheelbase t : Nat} (limit : 50 ≤ lateralLimit) (base : 3000 ≤ wheelbase)
    (turned : 0 < t) (legal : t ≤ 4096) : 122 ≤ (lateralLimit * wheelbase * 4096 / (10 * t)).sqrt :=
  Nat.le_sqrt.2 (le_trans (by decide) (le_turnRadicand limit base turned legal))

end Sys2Proof.Machine

open Sys2Proof Sys2Proof.Machine

/-- Settles O52: the tangent is bounded by the table's ends and its smallest rise, the turn factor and the differential
by their clamps, and the turn ceiling is the whole square root of X, capped at 3000. -/
theorem geometryOfTheCurve : Obligations.GeometryOfTheCurve := by
  rintro d side r inRange ⟨low, high⟩
  obtain ⟨⟨base, -⟩, -, -, -, -, -, -, -, -, -, -, -, -, -, -, -, ⟨limit, -⟩, -⟩ := inRange
  refine ⟨tangent_eq_zero_iff low high, natAbs_tangent_bounds low high, ?_, turnFactor_bounds _ _ _ _,
    differential_le _ _, fun disabled => ?_, fun straight => ?_, fun turned => ?_⟩
  · rw [tangent_neg, neg_neg]
    rfl
  · simp [geometryOf, disabled]
  · simp [geometryOf, straight]
  · have tangentTurned : tangent d.demand.steer ≠ 0 := mt (tangent_eq_zero_iff low high).1 turned
    obtain ⟨atLeast, atMost⟩ := natAbs_tangent_bounds low high turned
    have root := le_sqrt_turnRadicand limit base (by omega) atMost
    exact ⟨_, turnCeiling_of_ne_zero _ _ tangentTurned, le_min (by decide) root, min_le_left _ _,
      min_sqrt_mul_self_le _ _, lt_succ_min_sqrt_mul_self⟩

end

section
/-! SUPPORT. The output of a control update (R84, R92, R93, R99 to R102): what the ramp and the hard limits make of
the previous output and the target, and the statement on the stages together. -/

namespace Sys2Proof.Machine

/-! ### A magnitude with the sign of a number -/

theorem natAbs_sign_mul_le (x : Int) (m : Nat) : (x.sign * (m : Int)).natAbs ≤ m := by
  rw [Int.natAbs_mul, Int.natAbs_sign, Int.natAbs_natCast]
  split <;> omega

/-- Numbers that are not of opposite signs stay so when the magnitude of one is replaced. -/
theorem sign_mul_mul_nonneg {x y : Int} (m : Nat) (sameSide : 0 ≤ x * y) : 0 ≤ x.sign * m * y :=
  calc 0 ≤ (x * y).sign * (m * (y.natAbs : Int)) := mul_nonneg (Int.sign_nonneg_iff.2 sameSide) (by positivity)
    _ = x.sign * m * (y.sign * y.natAbs) := by rw [Int.sign_mul]; ring
    _ = x.sign * m * y := by rw [Int.sign_mul_natAbs]

theorem directionSign_eq (d : Direction) (vRef : Int) : directionSign d vRef = 1 ∨ directionSign d vRef = -1 := by
  cases d with
  | forward => exact .inl rfl
  | reverse => exact .inr rfl
  | neutral =>
    simp only [directionSign, signOrPlus]
    split <;> simp

theorem natAbs_mul_of_sign {σ : Int} (sign : σ = 1 ∨ σ = -1) (x : Int) : (x * σ).natAbs = x.natAbs := by
  obtain rfl | rfl := sign <;> simp

/-! ### Ramp (R84, R100) -/

@[simp] theorem ramp_opening (up down : Nat) (pt t : Int) : ramp up down true pt t = 0 := rfl

section
variable {up down : Nat} {pt t : Int}

theorem ramp_rise (sameSide : 0 ≤ pt * t) (less : pt.natAbs < t.natAbs) :
    ramp up down false pt t = t.sign * (min t.natAbs (pt.natAbs + up) : Nat) := by
  simp [ramp, sameSide, less]

theorem ramp_fall (sameSide : 0 ≤ pt * t) (more : t.natAbs < pt.natAbs) :
    ramp up down false pt t = pt.sign * (max t.natAbs (pt.natAbs - down) : Nat) := by
  simp [ramp, sameSide, more, more.not_gt]

theorem ramp_level (sameSide : 0 ≤ pt * t) (level : pt.natAbs = t.natAbs) : ramp up down false pt t = t := by
  simp [ramp, sameSide, level]

theorem ramp_across (opposite : pt * t < 0) : ramp up down false pt t = pt.sign * (pt.natAbs - down : Nat) := by
  simp [ramp, opposite.not_ge]

end

/-- What S11 gives: 0, a magnitude up to P_t's on P_t's side, or a magnitude up to ramp_up more on the target's side
when that is not the opposite one. -/
theorem ramp_cases (up down : Nat) (opening : Bool) (pt t : Int) :
    ramp up down opening pt t = 0 ∨
    (∃ m : Nat, m ≤ pt.natAbs ∧ ramp up down opening pt t = pt.sign * m) ∨
    (0 ≤ pt * t ∧ ∃ m : Nat, m ≤ pt.natAbs + up ∧ ramp up down opening pt t = t.sign * m) := by
  cases opening with
  | true => exact .inl rfl
  | false =>
    right
    obtain sameSide | opposite := le_or_gt 0 (pt * t)
    · obtain less | level | more := lt_trichotomy pt.natAbs t.natAbs
      · exact .inr ⟨sameSide, _, min_le_right _ _, ramp_rise sameSide less⟩
      · exact .inr ⟨sameSide, t.natAbs, by omega, by rw [ramp_level sameSide level, Int.sign_mul_natAbs]⟩
      · exact .inl ⟨_, max_le more.le (Nat.sub_le _ _), ramp_fall sameSide more⟩
    · exact .inl ⟨_, Nat.sub_le _ _, ramp_across opposite⟩

theorem natAbs_ramp_le (up down : Nat) (opening : Bool) (pt t : Int) :
    (ramp up down opening pt t).natAbs ≤ pt.natAbs + up := by
  obtain zero | ⟨m, bound, eq⟩ | ⟨-, m, bound, eq⟩ := ramp_cases up down opening pt t
  · simp [zero]
  · exact eq ▸ (natAbs_sign_mul_le pt m).trans (by omega)
  · exact eq ▸ (natAbs_sign_mul_le t m).trans bound

theorem ramp_mul_nonneg (up down : Nat) (opening : Bool) (pt t : Int) : 0 ≤ ramp up down opening pt t * pt := by
  obtain zero | ⟨m, -, eq⟩ | ⟨sameSide, m, -, eq⟩ := ramp_cases up down opening pt t
  · simp [zero]
  · exact eq ▸ sign_mul_mul_nonneg m (mul_self_nonneg pt)
  · exact eq ▸ sign_mul_mul_nonneg m (mul_comm pt t ▸ sameSide)

/-! ### Hard limits and output (R101, R102) -/

theorem limitMagnitude_eq (limit : Nat) (x : Int) : limitMagnitude limit x = x.sign * (min x.natAbs limit : Nat) := by
  rw [limitMagnitude, Nat.cast_min]

@[simp] theorem limitMagnitude_no_limit (x : Int) : limitMagnitude 0 x = 0 := by simp [limitMagnitude_eq]

@[simp] theorem limitMagnitude_zero (limit : Nat) : limitMagnitude limit 0 = 0 := by simp [limitMagnitude_eq]

theorem natAbs_limitMagnitude_le (limit : Nat) (x : Int) : (limitMagnitude limit x).natAbs ≤ min x.natAbs limit :=
  limitMagnitude_eq limit x ▸ natAbs_sign_mul_le x _

theorem limitMagnitude_mul_nonneg (limit : Nat) {x y : Int} (sameSide : 0 ≤ x * y) :
    0 ≤ limitMagnitude limit x * y :=
  limitMagnitude_eq limit x ▸ sign_mul_mul_nonneg _ sameSide

@[simp] theorem hardLimit_propel_zero (ep capacity er : Nat) : hardLimit .propel 0 ep capacity er = 0 := by
  simp [hardLimit]

@[simp] theorem gridRequest_zero (mode : Mode) (wheel : Int) (radius : Nat) : gridRequest mode 0 wheel radius = 0 := by
  simp [gridRequest, requestInRange]

/-! ### Ceiling and mode (R92, R93) -/

theorem minOpt_le (a : Nat) (o : Option Nat) : minOpt a o ≤ a := by
  cases o with
  | none => exact le_rfl
  | some b => exact min_le_left a b

theorem effectiveCeiling_le_stack (demand x : Nat) (turn : Option Nat) (cls : PayloadClass) (heavy : Nat) :
    effectiveCeiling demand (some x) turn cls heavy ≤ x :=
  calc effectiveCeiling demand (some x) turn cls heavy
    _ ≤ minOpt (minOpt demand (some x)) turn := minOpt_le _ _
    _ ≤ minOpt demand (some x) := minOpt_le _ _
    _ ≤ x := min_le_right _ _

theorem selectMode_of_ceiling_lt {uRef : Int} {c : Nat} (d : DemandRecord) (above : (c : Int) < uRef) :
    selectMode uRef c d = .retard := by
  simp [selectMode, above]

/-! ### The stages together -/

variable (r : CommRecord) (n : Snapshot)

/-- The limit of S12 that an update meets. -/
def limitOf (u : UpdateResult) : Nat :=
  hardLimit u.mode n.propelCeiling (propelEnvelope r u.uRef) (torqueOfPower n.offer r.rollingRadius u.uRef)
    (retardEnvelope r u.uRef)

theorem runStages_sign : (runStages r n).sign = 1 ∨ (runStages r n).sign = -1 := directionSign_eq _ _

theorem runStages_ramped : (runStages r n).ramped = ramp r.rampUp r.rampDown n.opening
    (n.previous * (runStages r n).sign) (runStages r n).target := rfl

theorem runStages_limited :
    (runStages r n).limited = limitMagnitude (limitOf r n (runStages r n)) (runStages r n).ramped := rfl

theorem runStages_output : (runStages r n).output = (runStages r n).limited * (runStages r n).sign := rfl

theorem runStages_request : (runStages r n).request =
    gridRequest (runStages r n).mode (runStages r n).output n.wheelSpeed r.rollingRadius := rfl

theorem runStages_natAbs_output : (runStages r n).output.natAbs = (runStages r n).limited.natAbs :=
  natAbs_mul_of_sign (runStages_sign r n) _

theorem runStages_natAbs_output_le :
    (runStages r n).output.natAbs ≤ min (n.previous.natAbs + r.rampUp) (limitOf r n (runStages r n)) := by
  rw [runStages_natAbs_output, runStages_limited]
  have ramped : (runStages r n).ramped.natAbs ≤ n.previous.natAbs + r.rampUp :=
    natAbs_mul_of_sign (runStages_sign r n) n.previous ▸ natAbs_ramp_le _ _ _ _ _
  exact (natAbs_limitMagnitude_le _ _).trans (min_le_min_right _ ramped)

theorem runStages_output_mul_previous_nonneg : 0 ≤ (runStages r n).output * n.previous := by
  have travel := limitMagnitude_mul_nonneg (limitOf r n (runStages r n))
    (ramp_mul_nonneg r.rampUp r.rampDown n.opening (n.previous * (runStages r n).sign) (runStages r n).target)
  rwa [← runStages_ramped, ← runStages_limited, mul_comm n.previous, ← mul_assoc, ← runStages_output] at travel

theorem runStages_output_of_opening (opening : n.opening = true) : (runStages r n).output = 0 := by
  rw [runStages_output, runStages_limited, runStages_ramped, opening]
  simp

theorem runStages_request_of_opening (opening : n.opening = true) : (runStages r n).request = 0 := by
  rw [runStages_request, runStages_output_of_opening r n opening, gridRequest_zero]

/-- The ceiling that the STOP context brings to S4 puts every forward reference speed above it. -/
theorem runStages_mode_of_ceiling_zero (stopped : n.speedCeiling = some 0) (moving : 0 < (runStages r n).uRef) :
    (runStages r n).mode = .retard := by
  have ceiling : (runStages r n).ceiling ≤ 0 := by
    change effectiveCeiling _ n.speedCeiling _ _ _ ≤ 0
    exact stopped ▸ effectiveCeiling_le_stack _ _ _ _ _
  exact selectMode_of_ceiling_lt _ (lt_of_le_of_lt (by exact_mod_cast ceiling) moving)

theorem runStages_output_of_propelCeiling_zero (stopped : n.propelCeiling = 0)
    (propelling : (runStages r n).mode = .propel) : (runStages r n).output = 0 := by
  have limit : limitOf r n (runStages r n) = 0 := by
    rw [limitOf, stopped, propelling, hardLimit_propel_zero]
  rw [runStages_output, runStages_limited, limit, limitMagnitude_no_limit, zero_mul]

end Sys2Proof.Machine

open Sys2Proof Sys2Proof.Machine

/-- Settles O49: the ramp's four branches are its equations, the magnitude and the side it gives survive the hard limits
and the return from travel terms, and a ceiling of 0 leaves RETARD for a moving truck. -/
theorem outputIsRampedAndClamped : Obligations.OutputIsRampedAndClamped := by
  intro r n u before a b propelLimit retardLimit limit
  have limit_eq : limitOf r n u = limit := rfl
  have bound := runStages_natAbs_output_le r n
  refine ⟨fun opening => ⟨runStages_output_of_opening r n opening, runStages_request_of_opening r n opening⟩,
    fun closed => ?_, ?_, rfl, runStages_sign r n, bound.trans (min_le_left _ _),
    runStages_output_mul_previous_nonneg r n, fun retarding => ?_, runStages_mode_of_ceiling_zero r n,
    runStages_output_of_propelCeiling_zero r n⟩
  · have ramped : u.ramped = ramp r.rampUp r.rampDown false before u.target := closed ▸ runStages_ramped r n
    rw [ramped]
    exact ⟨ramp_rise, ramp_fall, ramp_level, ramp_across⟩
  · rw [← limit_eq, ← limitMagnitude_eq]
    exact runStages_limited r n
  · have retardLimit_eq : limitOf r n u = retardLimit := by
      rw [limitOf, retarding]
      rfl
    exact retardLimit_eq ▸ bound.trans (min_le_right _ _)

end

section

/-! SUPPORT. The dither of the chopper duty (R125): which frames of a superframe the extra counts stretch, and for how
many counts the gate conducts. -/

namespace Sys2Proof.Machine

/-- The six values that an ext of 0 to 63 is a sum of (R125). -/
def stretchValues : List Nat := [32, 16, 8, 4, 2, 1]

/-- 1 for a frame of the set that the value stretches (R125: 1 mod 2 for 32, 2 mod 4 for 16, to 32 mod 64 for 1). -/
def stretchShare (value frame : Nat) : Nat := if frame % (64 / value) = 32 / value then 1 else 0

/-- The last column of R125's table. -/
theorem sum_stretchShare : ∀ value ∈ stretchValues,
    ((List.range 64).map fun k => stretchShare value (k + 1)).sum = value := by decide

theorem ite_or_of_disjoint {p q : Prop} [Decidable p] [Decidable q] (disjoint : ¬ (p ∧ q)) :
    (if p ∨ q then 1 else 0) = (if p then 1 else 0) + (if q then 1 else 0 : Nat) := by
  by_cases hp : p
  · simp [hp, not_and.1 disjoint hp]
  · simp [hp]

/-- The six sets do not overlap, so a frame's extra count is the sum of the shares of the values present. -/
theorem stretched_eq_sum_shares (ext frame : Nat) : (if stretched ext frame then 1 else 0) =
    (stretchValues.map fun value => ext / value % 2 * stretchShare value frame).sum := by
  have share (n m r : Nat) : (if n % 2 = 1 ∧ frame % m = r then 1 else 0) =
      n % 2 * (if frame % m = r then 1 else 0) := by
    obtain h | h := Nat.mod_two_eq_zero_or_one n <;> simp [h]
  simp only [stretched, Bool.or_eq_true, Bool.and_eq_true, beq_iff_eq]
  rw [ite_or_of_disjoint (by omega), ite_or_of_disjoint (by omega), ite_or_of_disjoint (by omega),
    ite_or_of_disjoint (by omega), ite_or_of_disjoint (by omega)]
  simp [share, stretchValues, stretchShare, add_assoc]

theorem sum_values_of_ext {ext : Nat} (bounded : ext < 64) :
    (stretchValues.map fun value => ext / value % 2 * value).sum = ext := by
  simp only [stretchValues, List.map_cons, List.map_nil, List.sum_cons, List.sum_nil]
  omega

/-- Over a superframe ext stretches exactly ext frames. -/
theorem sum_stretched {ext : Nat} (bounded : ext < 64) :
    ((List.range 64).map fun k => if stretched ext (k + 1) then 1 else 0).sum = ext := by
  calc ((List.range 64).map fun k => if stretched ext (k + 1) then 1 else 0).sum
      = ((List.range 64).map fun k =>
          (stretchValues.map fun value => ext / value % 2 * stretchShare value (k + 1)).sum).sum := by
        simp only [stretched_eq_sum_shares]
    _ = (stretchValues.map fun value =>
          ((List.range 64).map fun k => ext / value % 2 * stretchShare value (k + 1)).sum).sum := by
        simp only [stretchValues, List.map_cons, List.map_nil, List.sum_cons, List.sum_nil, add_zero,
          List.sum_map_add]
    _ = (stretchValues.map fun value => ext / value % 2 * value).sum := by
        refine congrArg List.sum (List.map_congr_left fun value h => ?_)
        rw [List.sum_map_mul_left, sum_stretchShare value h]
    _ = ext := sum_values_of_ext bounded

theorem sum_conductingCounts (duty : Nat) :
    ((List.range 64).map fun k => conductingCounts duty (k + 1)).sum = duty := by
  simp only [conductingCounts, List.sum_map_add, sum_stretched (Nat.mod_lt duty (by decide : 0 < 64)), List.map_const',
    List.length_range, List.sum_replicate, smul_eq_mul]
  exact Nat.div_add_mod duty 64

/-- R125's table for the ext and the frames of a superframe. -/
theorem stretched_iff {ext k : Nat} (bounded : ext < 64) (first : 1 ≤ k) (last : k ≤ 64) : stretched ext k = true ↔
    (32 ≤ ext ∧ k % 2 = 1) ∨ (16 ≤ ext % 32 ∧ k % 4 = 2) ∨ (8 ≤ ext % 16 ∧ k % 8 = 4) ∨
      (4 ≤ ext % 8 ∧ k % 16 = 8) ∨ (2 ≤ ext % 4 ∧ (k = 16 ∨ k = 48)) ∨ (ext % 2 = 1 ∧ k = 32) := by
  simp only [stretched, Bool.or_eq_true, Bool.and_eq_true, beq_iff_eq, or_assoc]
  refine or_congr (and_congr ?_ .rfl) <| or_congr (and_congr ?_ .rfl) <| or_congr (and_congr ?_ .rfl) <|
    or_congr (and_congr ?_ .rfl) <| or_congr (and_congr ?_ ?_) (and_congr .rfl ?_) <;> omega

theorem conductingCounts_le {duty : Nat} (bounded : duty ≤ 4095) (k : Nat) : conductingCounts duty k ≤ 64 := by
  unfold conductingCounts
  split <;> omega

@[simp] theorem stretched_last (ext : Nat) : stretched ext 64 = false := by simp [stretched]

@[simp] theorem stretched_zero (frame : Nat) : stretched 0 frame = false := by simp [stretched]

@[simp] theorem conductingCounts_last (duty : Nat) : conductingCounts duty 64 = duty / 64 := by simp [conductingCounts]

@[simp] theorem conductingCounts_zero (frame : Nat) : conductingCounts 0 frame = 0 := by simp [conductingCounts]

theorem State.chopperGate_iff {s : State} (released : s.station.state ≠ .reset) :
    s.chopperGate = true ↔ s.grid.count ≤ conductingCounts s.grid.duty s.grid.frame := by
  simp [State.chopperGate, released]

theorem State.chopperGate_of_duty_zero {s : State} (released : s.station.state ≠ .reset) (off : s.grid.duty = 0) :
    s.chopperGate = false := by
  have started : 0 < s.grid.count := Nat.succ_pos _
  rw [Bool.eq_false_iff, Ne, State.chopperGate_iff released, off, conductingCounts_zero]
  omega

end Sys2Proof.Machine

open Sys2Proof Sys2Proof.Machine

/-- Settles O53: ext is the sum of the values present in it, and each of them stretches a set of its own of that many
frames. -/
theorem dutyIsDithered : Obligations.DutyIsDithered := by
  refine ⟨fun duty bounded => ⟨sum_conductingCounts duty, fun k first last => ⟨?_, conductingCounts_le bounded k⟩,
    conductingCounts_last duty⟩, fun s released => ⟨State.chopperGate_iff released,
    State.chopperGate_of_duty_zero released⟩⟩
  simp only [conductingCounts, stretched_iff (Nat.mod_lt duty (by decide : 0 < 64)) first last]

end

section
/-! SUPPORT. Raises (R160 to R162): an equation for each of the five cases, and the statement on them. -/

namespace Sys2Proof.Machine

/-! ### What a raise writes -/

theorem Context.refresh_of_cls {x : Context} {c : ProtClass} (own : x.cls = c) (ch : Option Channel) :
    x.refresh ch = { x with
      hold := c.minHold
      clearReady := false
      channels := ch.elim x.channels fun k => if k ∈ x.channels then x.channels else x.channels ++ [k] } := by
  subst own
  cases ch with
  | none => rfl
  | some k => simp [Context.refresh]

theorem takeAlert_of_ne_stop {c : ProtClass} (other : c ≠ .stop) (channels : List Channel) :
    takeAlert c channels =
      .alert .contextTaken (c.level :: if c = .sensorFault then channels.map Channel.code else []) := by
  cases c <;> first | rfl | exact absurd rfl other

section
variable {s : State} {c : ProtClass}

/-- A take of a class that is not pending (R161). -/
theorem State.take_of_not_pending (other : c ≠ .stop) (fresh : c ∉ s.prot.pendingSet) :
    s.take c = State.alert { s with prot := { s.prot with stack := s.newContext c :: s.prot.stack } } .contextTaken
      (c.level :: if c = .sensorFault then s.meas.faultOrder.map Channel.code else []) := by
  have listed : (c.level :: if c = .sensorFault then (s.newContext c).channels.map Channel.code else []) =
      c.level :: if c = .sensorFault then s.meas.faultOrder.map Channel.code else [] := by
    by_cases sensor : c = .sensorFault <;> simp [State.newContext, sensor]
  simp only [State.take, if_neg other, List.erase_of_not_mem fresh, takeAlert_of_ne_stop other, listed, State.alert]

/-! ### The five cases (R160) -/

variable {f : Bool} {ch : Option Channel}

theorem State.raiseWith_of_onStack (on : s.prot.onStack c = true) : s.raiseWith f c ch = s.refresh c ch := by
  simpa [on] using s.raiseWith_cases f c ch

section
variable (off : s.prot.onStack c = false)
include off

theorem State.raiseWith_of_waiting (waits : c ∈ s.prot.pendingSet ∨ c ∈ s.prot.deferredSet) :
    s.raiseWith f c ch = s := by
  simpa [off, waits, ← not_or, ← and_assoc] using s.raiseWith_cases f c ch

variable (notPending : c ∉ s.prot.pendingSet) (notDeferred : c ∉ s.prot.deferredSet)
include notPending notDeferred

theorem State.raiseWith_inFlight_of_below (below : c.level < s.prot.topLevel) :
    s.raiseWith true c ch =
      { s with prot := { s.prot with deferredSet := insertClass c s.prot.deferredSet } } := by
  simpa [off, notPending, notDeferred, below, not_le.2 below] using s.raiseWith_cases true c ch

theorem State.raiseWith_of_below (below : c.level < s.prot.topLevel) : s.raiseWith false c ch = s.take c := by
  simpa [off, notPending, notDeferred, below, not_le.2 below] using s.raiseWith_cases false c ch

theorem State.raiseWith_of_not_below (above : s.prot.topLevel ≤ c.level) :
    s.raiseWith f c ch = { s with prot := { s.prot with pendingSet := insertClass c s.prot.pendingSet } } := by
  simpa [off, notPending, notDeferred, above, not_lt.2 above] using s.raiseWith_cases f c ch

end

/-! ### Raises and judgements of a live station (R158, R162) -/

theorem State.raise_of_live (live : s.station.state.live = true) : s.raise c ch = s.raiseWith s.inFlight c ch :=
  if_pos live

theorem State.judge_true : s.judge c true = s.raise c none := if_pos rfl

theorem State.judge_false_of_live (live : s.station.state.live = true) : s.judge c false = s.withdraw c :=
  (if_neg Bool.false_ne_true).trans (if_pos live)

theorem State.inFlight_iff : s.inFlight = true ↔ s.gov.update ≠ none := Option.isSome_iff_ne_none

theorem State.inFlight_eq_false_iff : s.inFlight = false ↔ s.gov.update = none :=
  Option.isSome_eq_false_iff.trans Option.isNone_iff_eq_none

end

end Sys2Proof.Machine

open Sys2Proof Sys2Proof.Machine

/-- Settles O38, case by case of R160. -/
theorem raiseOutcomes : Obligations.RaiseOutcomes := by
  intro s c ch live other
  refine ⟨fun on => ?refreshed, fun off waits => ?waiting, fun off notPending notDeferred =>
    ⟨fun below flying => ?deferred, fun below idle => ?taken, fun above => ?pending⟩, State.judge_true,
    State.judge_false_of_live live⟩ <;> rw [State.raise_of_live live]
  case refreshed =>
    rw [State.raiseWith_of_onStack on]
    refine congrArg (fun stack => { s with prot := { s.prot with stack } }) (List.map_congr_left fun x _ => ?_)
    split
    · rw [Context.refresh_of_cls ‹_›]
      cases ch <;> rfl
    · rfl
  case waiting => exact State.raiseWith_of_waiting off waits
  case deferred =>
    rw [State.inFlight_iff.2 flying, State.raiseWith_inFlight_of_below off notPending notDeferred below]
    exact ⟨fun _ => mem_insertClass, rfl⟩
  case taken =>
    rw [State.inFlight_eq_false_iff.2 idle, State.raiseWith_of_below off notPending notDeferred below]
    exact State.take_of_not_pending other notPending
  case pending =>
    rw [State.raiseWith_of_not_below off notPending notDeferred above]
    exact ⟨fun _ => mem_insertClass, rfl⟩

end

section
/-! SUPPORT. The limits in force (R166) are the limits of the top context: levels rise from the top down, and each limit
is at least as restrictive as that of every class of higher level (R155). -/

namespace Sys2Proof.Machine

/-! ### Limits of a class (R155) -/

theorem ProtClass.level_le_base (c : ProtClass) : c.level ≤ ProtClass.base.level := by cases c <;> decide

/-- The speed ceiling of a lower level is at least as restrictive. -/
theorem ProtClass.speedCeiling_monotone {a b : ProtClass} (lower : a.level ≤ b.level) :
    ∀ w ∈ b.speedCeiling, ∃ v ∈ a.speedCeiling, v ≤ w := by
  revert lower; cases a <;> cases b <;> decide

theorem ProtClass.speedCeiling_eq_none_iff {c : ProtClass} : c.speedCeiling = none ↔ c = .base := by
  cases c <;> decide

/-! ### Limits of the stack (R166) -/

section
variable {p : Protection} {x : Context} {rest : List Context}

theorem Protection.propelCeiling_of_cons (h : p.stack = x :: rest) :
    p.propelCeiling = min x.cls.propelCeiling { p with stack := rest }.propelCeiling := by
  simp only [Protection.propelCeiling, h, List.foldr_cons]

theorem Protection.speedCeiling_of_cons (h : p.stack = x :: rest) :
    p.speedCeiling = x.cls.speedCeiling.elim { p with stack := rest }.speedCeiling
      fun v => some (minOpt v { p with stack := rest }.speedCeiling) := by
  simp only [Protection.speedCeiling, h, List.foldr_cons]
  cases x.cls.speedCeiling <;> rfl

theorem Protection.top_of_cons (h : p.stack = x :: rest) : p.top = x.cls := by
  simp only [Protection.top, h]

end

/-- Levels strictly rise from the top of the stack down (R156). -/
def Protection.Rising (p : Protection) : Prop := (p.stack.map fun x => x.cls.level).Pairwise (· < ·)

theorem Protection.rising_of_stackOrdered {p : Protection} (ordered : p.StackOrdered) : p.Rising := ordered.2

theorem Protection.rising_of_cons {p : Protection} {x : Context} {rest : List Context} (h : p.stack = x :: rest) :
    p.Rising ↔ (∀ y ∈ rest, x.cls.level < y.cls.level) ∧ { p with stack := rest }.Rising := by
  simp [Protection.Rising, h]

theorem Protection.Rising.topLevel_le {p : Protection} (rising : p.Rising) :
    ∀ x ∈ p.stack, p.topLevel ≤ x.cls.level := by
  cases h : p.stack with
  | nil => simp
  | cons y rest =>
    obtain ⟨above, -⟩ := (Protection.rising_of_cons h).1 rising
    rw [Protection.topLevel, Protection.top_of_cons h]
    exact List.forall_mem_cons.2 ⟨le_rfl, fun x mem => (above x mem).le⟩

theorem Protection.Rising.level_le_topLevel_of_cons {p : Protection} (rising : p.Rising) {x : Context}
    {rest : List Context} (h : p.stack = x :: rest) : x.cls.level ≤ { p with stack := rest }.topLevel := by
  obtain ⟨above, -⟩ := (Protection.rising_of_cons h).1 rising
  cases rest with
  | nil => exact x.cls.level_le_base
  | cons y rest => exact (above y List.mem_cons_self).le

theorem Protection.Rising.propelCeiling_eq_top {p : Protection} (rising : p.Rising) :
    p.propelCeiling = p.top.propelCeiling := by
  induction h : p.stack generalizing p with
  | nil => simp [Protection.propelCeiling, Protection.top, h, ProtClass.propelCeiling]
  | cons x rest ih =>
    obtain ⟨-, below⟩ := (Protection.rising_of_cons h).1 rising
    rw [Protection.propelCeiling_of_cons h, Protection.top_of_cons h, ih below rfl]
    exact min_eq_left (ProtClass.limits_monotone (rising.level_le_topLevel_of_cons h))

theorem Protection.Rising.speedCeiling_eq_top {p : Protection} (rising : p.Rising) :
    p.speedCeiling = p.top.speedCeiling := by
  induction h : p.stack generalizing p with
  | nil => simp [Protection.speedCeiling, Protection.top, h, ProtClass.speedCeiling]
  | cons x rest ih =>
    obtain ⟨-, below⟩ := (Protection.rising_of_cons h).1 rising
    rw [Protection.speedCeiling_of_cons h, Protection.top_of_cons h, ih below rfl]
    have looser := ProtClass.speedCeiling_monotone (rising.level_le_topLevel_of_cons h)
    cases nextSpeed : { p with stack := rest }.top.speedCeiling with
    | none => cases x.cls.speedCeiling <;> rfl
    | some w =>
      obtain ⟨v, own, le⟩ := looser w nextSpeed
      rw [Option.mem_def.1 own, Option.elim_some, minOpt, min_eq_left le]

/-! ### Outputs (R39, R167) -/

theorem State.brakeRequest_iff {s : State} : s.brakeRequest = true ↔
    s.station.state ≠ .run ∨ s.prot.onStack .stop = true ∨ s.prot.heldReason = true ∨
      s.prot.shortfallReason = true := by
  by_cases run : s.station.state = .run
  · simp [State.brakeRequest, State.brakeReason, run, or_assoc]
  · simp [State.brakeRequest, run]

theorem State.gateInhibit_eq_false_iff {s : State} : s.gateInhibit = false ↔ s.station.state = .run :=
  bne_eq_false_iff_eq

end Sys2Proof.Machine

open Sys2Proof Sys2Proof.Machine

/-- Settles O40: the limits in force are the top context's, and every class on the stack or pending has the top level or
a higher one. -/
theorem limitsInForce : Obligations.LimitsInForce := by
  rintro s ⟨ordered, -, -, pending, -⟩
  have rising := Protection.rising_of_stackOrdered ordered
  have propel := rising.propelCeiling_eq_top
  have speed := rising.speedCeiling_eq_top
  have least (c : ProtClass) (above : s.prot.topLevel ≤ c.level) : s.prot.propelCeiling ≤ c.propelCeiling ∧
      ∀ a, c.speedCeiling = some a → ∃ b, s.prot.speedCeiling = some b ∧ b ≤ a := by
    rw [propel, speed]
    exact ⟨ProtClass.limits_monotone above, ProtClass.speedCeiling_monotone above⟩
  have waiting (c : ProtClass) (mem : c ∈ s.prot.pendingSet) : s.prot.topLevel ≤ c.level := by
    obtain ⟨above, -⟩ := pending c mem
    exact above.le
  exact ⟨fun x mem => least x.cls (rising.topLevel_le x mem), propel, speed,
    speed ▸ ProtClass.speedCeiling_eq_none_iff, fun c mem => least c (waiting c mem), rfl, rfl,
    State.brakeRequest_iff, State.gateInhibit_eq_false_iff⟩

end

section
/-! SUPPORT. What a command does to the bus port, the counters, the measurement unit and the protection unit, said once:
a chain of primitive moves (`Move`), pops, port writes and a warm restart's protection values (`Act`). An invariant that
each link keeps is kept by every command. -/

namespace Sys2Proof.Machine

/-! ### Primitive moves -/

/-- A context's change that leaves its class alone, and BASE wholly. -/
def ContextEdit (f : Context → Context) : Prop := (∀ x, (f x).cls = x.cls) ∧ f .base = .base

/-- One primitive move: a write to one part of the state. Records other than bus port, counters and
measurement, and the marks of the protection unit, may change freely. -/
inductive Move : State → State → Prop
  | other {s t : State} (bus : t.bus = s.bus) (counters : t.counters = s.counters) (meas : t.meas = s.meas)
      (stack : t.prot.stack = s.prot.stack) (pendingSet : t.prot.pendingSet = s.prot.pendingSet)
      (deferredSet : t.prot.deferredSet = s.prot.deferredSet) : Move s t
  | bump (s : State) (c : CounterId) : Move s (s.bump c)
  | offer (s : State) (b : Body) (room : s.bus.urgent.length < 4) :
      Move s { s with bus := { s.bus with urgent := s.bus.urgent ++ [b] } }
  | join (s : State) (e : RxEntry) (room : s.bus.rx.length < 8) :
      Move s { s with bus := { s.bus with rx := s.bus.rx ++ [e] } }
  | port (s : State) (b : BusPort) (urgent : b.urgent = s.bus.urgent) (rx : b.rx = s.bus.rx) (seq : b.seq = s.bus.seq)
      (consecutive : b.consecutive = s.bus.consecutive) : Move s { s with bus := b }
  | converting (s : State) (c : Option Channel) : Move s { s with meas := { s.meas with converting := c } }
  | record (s : State) (c : Channel) (r : ChannelRecord) (faulted : r.faulted = (s.meas.channels.get c).faulted) :
      Move s (s.setChannel c r)
  | fault (s : State) (c : Channel) (sound : (s.meas.channels.get c).faulted = false) : Move s (s.markFaulted c)
  | returned (s : State) (c : Channel) : Move s (s.returnChannel c)
  | contexts (s : State) (f : Context → Context) (edit : ContextEdit f) :
      Move s { s with prot := { s.prot with stack := s.prot.stack.map f } }
  | push (s : State) (c : ProtClass) (below : c.level < s.prot.topLevel)
      (free : (s.prot.onStack c = false ∧ c ∉ s.prot.deferredSet) ∨ ∃ rest, s.prot.pendingSet = c :: rest) :
      Move s { s with prot := { s.prot with
        stack := s.newContext c :: s.prot.stack, pendingSet := s.prot.pendingSet.erase c } }
  | defer (s : State) (c : ProtClass) (below : c.level < s.prot.topLevel) (off : s.prot.onStack c = false)
      (notPending : c ∉ s.prot.pendingSet ∨ c = .stop) :
      Move s { s with prot := { s.prot with deferredSet := insertClass c s.prot.deferredSet } }
  | pend (s : State) (c : ProtClass) (above : s.prot.topLevel ≤ c.level) (off : s.prot.onStack c = false)
      (notDeferred : c ∉ s.prot.deferredSet) :
      Move s { s with prot := { s.prot with pendingSet := insertClass c s.prot.pendingSet } }
  | withdraw (s : State) (c : ProtClass) : Move s (s.withdraw c)
  | promote (s : State) : Move s { s with prot := { s.prot with
      pendingSet := s.prot.pendingSet.filter (fun c => !decide (c.level < s.prot.topLevel))
      deferredSet := (s.prot.pendingSet.filter (fun c => decide (c.level < s.prot.topLevel))).foldl
        (fun d c => insertClass c d) s.prot.deferredSet } }
  | undefer (s : State) : Move s { s with prot := { s.prot with deferredSet := [] } }

/-- A chain of primitive moves. -/
abbrev Moves : State → State → Prop := Relation.ReflTransGen Move

/-- The state whose clear-ready contexts have left the top of the stack, the pending set not yet looked at (R165). -/
def State.dropReady (s : State) : State :=
  { s with prot := { s.prot with stack := s.prot.stack.dropWhile Context.clearReady } }

/-- One act of a command: a move, a pop, a write by which the bus port's queues shrink, or the protection values of a
warm restart. -/
inductive Act : State → State → Prop
  | move {s t : State} (h : Move s t) : Act s t
  | pop (s : State) : Act s s.pop
  | drain (s : State) (b : BusPort) (urgent : b.urgent.length ≤ s.bus.urgent.length)
      (rx : b.rx.length ≤ s.bus.rx.length) (seq : b.seq = s.bus.seq ∨ b.seq < 16)
      (consecutive : b.consecutive = s.bus.consecutive ∨ b.consecutive < 16) : Act s { s with bus := b }
  | coldProt (s : State) (level : Bool) : Act s { s with prot := { Protection.cold with stopLine := level } }

/-- A chain of acts. -/
abbrev Acts : State → State → Prop := Relation.ReflTransGen Act

theorem Moves.acts {s t : State} (h : Moves s t) : Acts s t :=
  Relation.ReflTransGen.mono (fun _ _ => Act.move) _ _ h

theorem Moves.after {s t u : State} (h : Moves t u) (m : Move s t) : Moves s u := .head m h

theorem Acts.after {s t u : State} (h : Acts t u) (m : Move s t) : Acts s u := .head (.move m) h

/-! ### Offers and joins -/

section
variable (s : State)

theorem State.offerUrgent_moves (b : Body) : Moves s (s.offerUrgent b) := by
  obtain ⟨-, h⟩ | ⟨-, room, h⟩ | ⟨-, -, h⟩ := s.offerUrgent_cases b <;> rw [h]
  · exact .single (.offer s b room)
  · exact .single (.bump s _)

theorem State.alert_moves (k : AlertKind) (args : List Nat) : Moves s (s.alert k args) := s.offerUrgent_moves _

theorem State.offerState_moves (b : Body) : Moves s (s.offerState b) := by
  have slot : Moves s { s with bus := { s.bus with stateSlot := some b } } := .single (.port s _ rfl rfl rfl rfl)
  unfold State.offerState
  dsimp only
  split
  · exact slot.tail (.bump _ _)
  · exact slot

theorem State.offerReport_moves (b : Body) : Moves s (s.offerReport b) := .single (.port s _ rfl rfl rfl rfl)

theorem State.joinRx_moves (e : RxEntry) : Moves s (s.joinRx e) := by
  unfold State.joinRx
  dsimp only
  split
  next room =>
    have joined := Move.join s e room
    split
    · exact .single joined
    · exact .tail (.single joined) (.bump _ _)
  next => exact .single (.bump s _)

theorem State.idleFor_moves (n : Nat) : Moves s (s.idleFor n) :=
  .single (.port s _ (s.idleFor_urgent n) (s.idleFor_rx n) (s.idleFor_seq n) (s.idleFor_consecutive n))

/-! ### Channels -/

theorem State.setChannelValue_move (c : Channel) (v : Int) : Move s (s.setChannelValue c v) := .record s c _ rfl

theorem State.followWheel_moves : Moves s s.followWheel := by
  unfold State.followWheel
  split
  · exact .single (s.setChannelValue_move _ _)
  · exact .refl

theorem State.followTorque_moves : Moves s s.followTorque := by
  unfold State.followTorque
  split
  · exact .single (s.setChannelValue_move _ _)
  · exact .refl

theorem State.returnChannels_moves (l : List Channel) : Moves s (l.foldl State.returnChannel s) := by
  induction l generalizing s with
  | nil => exact .refl
  | cons c rest ih => exact .head (.returned s c) (ih _)

/-! ### Raises and takes -/

variable {s} in
/-- STOP is below every top but itself. -/
theorem Protection.stop_below_top (off : s.prot.onStack .stop = false) : ProtClass.stop.level < s.prot.topLevel := by
  unfold Protection.topLevel Protection.top
  unfold Protection.onStack at off
  split
  next x rest h =>
    have other : x.cls ≠ .stop := by simp_all
    cases h : x.cls <;> first | exact absurd h other | decide
  next => decide

theorem State.take_moves {c : ProtClass} (below : c.level < s.prot.topLevel)
    (free : (s.prot.onStack c = false ∧ c ∉ s.prot.deferredSet) ∨ ∃ rest, s.prot.pendingSet = c :: rest) :
    Moves s (s.take c) := by
  have alerted := Relation.ReflTransGen.head (Move.push s c below free)
    (State.offerUrgent_moves _ (takeAlert c (s.newContext c).channels))
  unfold State.take
  split
  · exact alerted.tail (.bump _ _)
  · exact alerted

theorem contextEdit_refresh {c : ProtClass} {ch : Option Channel} (listed : c = .base → ch = none) :
    ContextEdit fun x => if x.cls = c then x.refresh ch else x := by
  refine ⟨fun x => ?_, ?_⟩
  · dsimp only
    split <;> rfl
  · dsimp only
    split
    next own => rw [listed own.symm]; rfl
    next => rfl

/-- A raise, whether a class or, for SENSOR_FAULT, with the channel that raised it (R160). -/
theorem State.raiseWith_moves (f : Bool) {c : ProtClass} {ch : Option Channel} (listed : c = .base → ch = none) :
    Moves s (s.raiseWith f c ch) := by
  obtain ⟨-, h⟩ | ⟨-, -, h⟩ | ⟨off, notPending, -, below, -, h⟩ | ⟨off, notPending, notDeferred, below, -, h⟩ |
    ⟨off, -, notDeferred, above, h⟩ := s.raiseWith_cases f c ch <;> rw [h]
  · exact .single (.contexts s _ (contextEdit_refresh listed))
  · exact .single (.defer s c below off (.inl notPending))
  · exact s.take_moves below (.inl ⟨off, notDeferred⟩)
  · exact .single (.pend s c above off notDeferred)

theorem State.raise_moves {c : ProtClass} {ch : Option Channel} (listed : c = .base → ch = none) :
    Moves s (s.raise c ch) := by
  unfold State.raise
  split
  · exact s.raiseWith_moves _ listed
  · exact .refl

theorem State.judge_moves (c : ProtClass) (holds : Bool) : Moves s (s.judge c holds) := by
  unfold State.judge
  split
  · exact s.raise_moves fun _ => rfl
  · split
    · exact .single (.withdraw s c)
    · exact .refl

theorem State.receiveStop_moves : Moves s s.receiveStop := by
  obtain ⟨-, h⟩ | ⟨-, h⟩ | ⟨off, -, -, -, h⟩ | ⟨off, notDeferred, h⟩ := s.receiveStop_cases <;> rw [h]
  · exact .single (.bump s _)
  · exact .single (.defer s _ (Protection.stop_below_top off) off (.inr rfl))
  · exact s.take_moves (Protection.stop_below_top off) (.inl ⟨off, notDeferred⟩)

/-! ### Pops and the deferred set -/

/-- Before a pop's last work, the classes of the pending set, the moves of R165 are alerts, returns and withdrawals. -/
theorem State.afterPop_moves (x : Context) : Moves s (s.afterPop x) := by
  have alerted := s.alert_moves .contextCleared [x.cls.level]
  have returned := alerted.trans (State.returnChannels_moves _ x.channels)
  unfold State.afterPop
  dsimp only
  split
  · split
    · exact returned.tail (.withdraw _ _)
    · exact returned
  · exact alerted

theorem State.afterPops_moves (l : List Context) : Moves s (l.foldl State.afterPop s) := by
  induction l generalizing s with
  | nil => exact .refl
  | cons x rest ih => exact (s.afterPop_moves x).trans (ih _)

theorem State.promotePending_moves : Moves s s.promotePending := by
  obtain ⟨-, h⟩ | ⟨-, c, rest, lowest, below, h⟩ | ⟨-, -, h⟩ := s.promotePending_cases <;> rw [h]
  · exact .single (.promote s)
  · exact s.take_moves below (.inr ⟨rest, lowest⟩)

/-- A pop is the removal of the clear-ready contexts, what follows each of them, and then the pending set (R165). -/
theorem State.pop_eq : s.pop =
    ((s.prot.stack.takeWhile Context.clearReady).foldl State.afterPop s.dropReady).promotePending := rfl

theorem State.pop_moves : Moves s.dropReady s.pop :=
  (State.afterPops_moves _ _).trans (State.promotePending_moves _)

theorem State.judgeDeferred_moves : Moves s s.judgeDeferred := by
  have raises (l : List ProtClass) (t : State) : Moves t (l.foldl (fun u c => u.raiseWith false c none) t) := by
    induction l generalizing t with
    | nil => exact .refl
    | cons c rest ih => exact (t.raiseWith_moves false fun _ => rfl).trans (ih _)
  exact .head (.undefer s) (raises _ _)

theorem State.readyAndPop_acts (c : ProtClass) (other : c ≠ .base) : Acts s (s.readyAndPop c) := by
  refine .head (.move (.contexts s (fun x => if x.cls = c then { x with clearReady := true } else x) ⟨fun x => ?_, ?_⟩))
    (.single (.pop _))
  · dsimp only
    split <;> rfl
  · exact if_neg fun own => other own.symm

theorem State.tickContext_edit : ContextEdit s.tickContext := ⟨fun _ => rfl, rfl⟩

theorem State.protectionExpiry_acts : Acts s s.protectionExpiry :=
  .head (.move (.contexts s _ s.tickContext_edit)) (.single (.pop _))

/-! ### Changes of station state -/

theorem State.departRun_moves (m : Mode) : Moves s (s.departRun m) :=
  (State.followTorque_moves _).after (.other rfl rfl rfl rfl rfl rfl)

theorem State.trip_moves (c : TripCause) : Moves s (s.trip c) := by
  have departed : Moves s (if s.station.state = .run then s.departRun .coast else s) := by
    split
    · exact s.departRun_moves _
    · exact .refl
  exact departed.trans ((State.alert_moves _ _ _).after (.other rfl rfl rfl rfl rfl rfl))

theorem State.receiveCause_moves (c : TripCause) : Moves s (s.receiveCause c) := by
  obtain ⟨-, h⟩ | ⟨-, -, h⟩ | ⟨-, -, h⟩ | ⟨-, h⟩ := s.receiveCause_cases c <;> rw [h]
  · exact .head (.bump s _) (State.trip_moves _ c)
  · exact .single (.bump s _)
  · exact .head (.bump s _) (.single (.other rfl rfl rfl rfl rfl rfl))

theorem State.enterReady_moves : Moves s s.enterReady := by
  have ready : Move s { s with station := { s.station with state := .ready } } := .other rfl rfl rfl rfl rfl rfl
  unfold State.enterReady
  dsimp only
  split
  · exact .head ready (State.receiveCause_moves _ _)
  · exact .single ready

theorem State.leaveListen_moves : Moves s s.leaveListen := by
  unfold State.leaveListen
  split
  · split
    · exact s.enterReady_moves
    · exact .single (.other rfl rfl rfl rfl rfl rfl)
  · exact .refl

theorem State.startSelfCheck_moves : Moves s s.startSelfCheck := .single (.port s _ rfl rfl rfl rfl)

theorem State.enterHeld_moves : Moves s s.enterHeld :=
  (s.departRun_moves .hold).trans
    ((State.alert_moves _ _ _).after (.other rfl rfl rfl rfl rfl rfl))

/-- An isolation empties the bus port's queues (R15, R38, R44). -/
theorem State.isolate_acts (r : IsolationReason) : Acts s (s.isolate r) :=
  .head (.drain s (s.isolate r).bus (Nat.zero_le _) (Nat.zero_le _) (.inl rfl) (.inr (Nat.zero_lt_succ _)))
    (.head (.move (.converting _ none)) (.single (.move (.other rfl rfl rfl rfl rfl rfl))))

/-! ### The report of R31 and the age clock -/

theorem State.report31_moves : Moves s s.report31 := by
  have classified : Move s { s.classifyPayload with reports := s.reports + 1 } := .other rfl rfl rfl rfl rfl rfl
  unfold State.report31
  dsimp only
  split
  · exact .refl
  · split <;> exact .head classified ((State.judge_moves _ _ _).trans (State.judge_moves _ _ _))

theorem State.buildStatePost_moves : Moves s s.buildStatePost := by
  unfold State.buildStatePost
  split
  · exact s.offerState_moves _
  · exact .refl

theorem State.countGrace_moves : Moves s s.countGrace := by
  unfold State.countGrace
  split
  · exact .single (.other rfl rfl rfl rfl rfl rfl)
  · exact .refl

theorem State.duplicateHeard_moves : Moves s s.duplicateHeard := by
  unfold State.duplicateHeard
  split
  · exact (State.alert_moves _ _ _).after (.other rfl rfl rfl rfl rfl rfl)
  · exact .refl

theorem State.countListen_moves : Moves s s.countListen := by
  unfold State.countListen
  split
  · exact (State.leaveListen_moves _).after (.other rfl rfl rfl rfl rfl rfl)
  · exact .refl

theorem State.expirePostPeriod_moves (line : Bool) : Moves s (s.expirePostPeriod line) := by
  have aged : Moves s s.buildStatePost.agePeers.recomputeGeometry :=
    s.buildStatePost_moves.tail (.other rfl rfl rfl rfl rfl rfl)
  have reported := (aged.trans (State.countGrace_moves _)).trans (State.report31_moves _)
  exact (reported.trans (State.duplicateHeard_moves _)).trans
    ((State.countListen_moves _).after (.other rfl rfl rfl rfl rfl rfl))

/-! ### The control period and the control update -/

theorem State.governorExpiry_moves : Moves s s.governorExpiry := by
  unfold State.governorExpiry
  split <;> exact .single (.other rfl rfl rfl rfl rfl rfl)

theorem State.judgeWinding_moves : Moves s s.judgeWinding := s.judge_moves _ _

theorem State.setAccumulator_move (a : Nat) : Move s (s.setAccumulator a) := .other rfl rfl rfl rfl rfl rfl

theorem State.coolWinding_moves : Moves s s.coolWinding :=
  (State.judgeWinding_moves _).after (s.setAccumulator_move _)

theorem State.othersExpiry_acts : Acts s s.othersExpiry := by
  unfold State.othersExpiry
  split
  · exact s.protectionExpiry_acts
  · exact s.coolWinding_moves.acts.trans (State.protectionExpiry_acts _)

theorem State.integrateWinding_moves : Moves s s.integrateWinding :=
  (State.judgeWinding_moves _).after (s.setAccumulator_move _)

theorem State.judgeSlip_moves (n : Snapshot) (u : UpdateResult) : Moves s (s.judgeSlip n u) := by
  unfold State.judgeSlip
  split
  · exact s.raise_moves fun _ => rfl
  · split
    · exact .single (.withdraw s _)
    · exact .refl

theorem State.judgeShortfall_moves (n : Snapshot) (u : UpdateResult) : Moves s (s.judgeShortfall n u) := by
  unfold State.judgeShortfall
  split
  · exact .single (.other rfl rfl rfl rfl rfl rfl)
  · split
    · exact .single (.other rfl rfl rfl rfl rfl rfl)
    · exact .refl

theorem State.completionReport_moves (n : Snapshot) (u : UpdateResult) : Moves s (s.completionReport n u) := by
  unfold State.completionReport
  split
  · exact s.enterHeld_moves
  · split
    · exact .single (.other rfl rfl rfl rfl rfl rfl)
    · exact .refl

theorem State.endUpdate_move : Move s s.endUpdate := .other rfl rfl rfl rfl rfl rfl

theorem State.completeUpdate_moves (n : Snapshot) : Moves s (s.completeUpdate n) := by
  have stored : Moves s (s.storeUpdate n (runStages s.station.record n)) := .single (.other rfl rfl rfl rfl rfl rfl)
  have followed := (stored.trans (State.followWheel_moves _)).trans (State.followTorque_moves _)
  have judged := (followed.trans (State.integrateWinding_moves _)).trans
    (State.judgeSlip_moves _ n (runStages s.station.record n))
  have shortfall := judged.trans (State.judgeShortfall_moves _ n (runStages s.station.record n))
  exact ((shortfall.tail (State.endUpdate_move _)).trans (State.judgeDeferred_moves _)).trans
    (State.completionReport_moves _ n _)

theorem State.completeDiscarded_moves : Moves s s.completeDiscarded :=
  (s.coolWinding_moves.tail (State.endUpdate_move _)).trans (State.judgeDeferred_moves _)

/-! ### Conversions and the grid section -/

theorem State.updateRecord_moves (c : Channel) (j : Judgement) (r : Int) : Moves s (s.updateRecord c j r) := by
  unfold State.updateRecord
  dsimp only
  split
  · exact .single (.record s c _ rfl)
  · have bad : Moves s (s.setChannel c (s.meas.channels.get c).afterBad) := .single (.record s c _ rfl)
    split
    · split
      · exact bad.trans (State.raise_moves _ nofun)
      next sound =>
        have marked := Move.fault (s.setChannel c (s.meas.channels.get c).afterBad) c
          (by simpa [State.setChannel, ChannelRecord.afterBad] using sound)
        exact (bad.tail marked).trans (State.raise_moves _ nofun)
    · exact bad

theorem State.handOver_moves (c : Channel) (j : Judgement) (r : Int) : Moves s (s.handOver c j r) := by
  unfold State.handOver
  split
  · split
    · exact s.receiveCause_moves _
    · exact .refl
  · exact s.judgeWinding_moves
  · split
    · exact .single (.other rfl rfl rfl rfl rfl rfl)
    · exact .refl
  · exact .single (.other rfl rfl rfl rfl rfl rfl)
  all_goals exact .refl

theorem State.completeConversion_moves (c : Channel) (raw : Int) : Moves s (s.completeConversion c raw) :=
  ((s.updateRecord_moves c _ _).trans (State.handOver_moves _ c _ _)).tail (.converting _ _)

theorem State.judgeGridOpen_moves : Moves s s.judgeGridOpen := by
  unfold State.judgeGridOpen
  dsimp only
  split
  · exact (State.receiveCause_moves _ _).after (.other rfl rfl rfl rfl rfl rfl)
  · exact .single (.other rfl rfl rfl rfl rfl rfl)

theorem State.countSpinUp_moves (running : Bool) : Moves s (s.countSpinUp running) := by
  unfold State.countSpinUp State.spinUpCheck
  dsimp only
  split
  · exact .refl
  · split
    · split
      · exact .single (.other rfl rfl rfl rfl rfl rfl)
      · split
        · exact .single (.other rfl rfl rfl rfl rfl rfl)
        · exact (State.alert_moves _ _ _).after (.other rfl rfl rfl rfl rfl rfl)
    · exact .single (.other rfl rfl rfl rfl rfl rfl)

theorem State.completeSuperframe_moves (running : Bool) : Moves s (s.completeSuperframe running) := by
  have judged : Moves s (s.stepThermal.judge .gridHot s.stepThermal.gridHot) :=
    (State.judge_moves _ _ _).after (.other rfl rfl rfl rfl rfl rfl)
  exact ((judged.trans (State.judgeGridOpen_moves _)).trans (State.countSpinUp_moves _ running)).tail
    (.other rfl rfl rfl rfl rfl rfl)

/-! ### Lines -/

theorem State.stopLineAsserted_moves : Moves s s.stopLineAsserted :=
  (s.offerUrgent_moves _).trans (State.receiveStop_moves _)

theorem State.showStopLine_moves (level : Bool) : Moves s (s.showStopLine level) := by
  unfold State.showStopLine
  dsimp only
  split <;> exact .single (.other rfl rfl rfl rfl rfl rfl)

/-! ### Warm restart -/

theorem State.take_prot (c : ProtClass) : (s.take c).prot =
    { s.prot with stack := s.newContext c :: s.prot.stack, pendingSet := s.prot.pendingSet.erase c } := by
  unfold State.take
  dsimp only
  split <;> simp

theorem onStack_refresh (p : Protection) (c d : ProtClass) (ch : Option Channel) :
    Protection.onStack { p with stack := p.stack.map fun x => if x.cls = c then x.refresh ch else x } d =
      p.onStack d := by
  simp only [Protection.onStack, List.any_map]
  congr 1
  funext x
  dsimp only [Function.comp]
  split <;> rfl

/-- A raise taken at once leaves STOP off the stack and nothing deferred (R64). -/
theorem State.raiseWith_restart (ch : Option Channel) (off : s.prot.onStack .stop = false)
    (none : s.prot.deferredSet = []) : (s.raiseWith false .sensorFault ch).prot.onStack .stop = false ∧
      (s.raiseWith false .sensorFault ch).prot.deferredSet = [] := by
  obtain ⟨-, h⟩ | ⟨-, -, h⟩ | ⟨-, -, -, -, now, -⟩ | ⟨-, -, -, -, -, h⟩ | ⟨-, -, -, -, h⟩ :=
    s.raiseWith_cases false .sensorFault ch
  · rw [h]
    exact ⟨(onStack_refresh s.prot _ _ ch).trans off, none⟩
  · rw [h]
    exact ⟨off, none⟩
  · exact absurd now Bool.false_ne_true
  · rw [h, State.take_prot]
    exact ⟨by simpa [Protection.onStack, State.newContext] using off, none⟩
  · rw [h]
    exact ⟨off, none⟩

theorem State.restartRaises_moves (off : s.prot.onStack .stop = false) (none : s.prot.deferredSet = []) :
    Moves s s.restartRaises := by
  have raises (l : List Channel) (t : State) (off : t.prot.onStack .stop = false) (none : t.prot.deferredSet = []) :
      let u := l.foldl (fun t c => t.raiseWith false .sensorFault (some c)) t
      Moves t u ∧ u.prot.onStack .stop = false ∧ u.prot.deferredSet = [] := by
    induction l generalizing t with
    | nil => exact ⟨.refl, off, none⟩
    | cons c rest ih =>
      obtain ⟨off', none'⟩ := t.raiseWith_restart (some c) off none
      obtain ⟨moves, kept⟩ := ih _ off' none'
      exact ⟨(t.raiseWith_moves false (c := .sensorFault) nofun).trans moves, kept⟩
  obtain ⟨raised, off, none⟩ := raises s.meas.faultOrder s off none
  unfold State.restartRaises
  dsimp only
  split
  · exact raised.trans (State.take_moves _ (Protection.stop_below_top off) (.inl ⟨off, by simp [none]⟩))
  · exact raised

/-- The protection unit after the warm-restart values is at its values of cold reset (R169, R177). -/
theorem State.warmValues_acts : Acts s s.warmValues :=
  .head (.drain s s.warmValues.bus (Nat.zero_le _) (Nat.zero_le _) (.inl rfl) (.inr (Nat.zero_lt_succ _)))
    (.head (.coldProt _ s.prot.stopLine) (.single (.move (.other rfl rfl rfl rfl rfl rfl))))

theorem State.warmRestart_acts (straps : Fin 8) : Acts s (s.warmRestart straps) := by
  have warm : Acts s { s.warmValues.recomputeGeometry with pins := { s.pins with straps := straps } } :=
    s.warmValues_acts.tail (.move (.other rfl rfl rfl rfl rfl rfl))
  unfold State.warmRestart
  dsimp only
  split
  · exact warm.trans (Moves.acts ((State.startSelfCheck_moves _).trans (State.restartRaises_moves _ rfl rfl)))
  · exact warm.trans (State.isolate_acts _ _)

/-! ### Absorptions -/

theorem State.configItem_moves (item value : Nat) : Moves s (s.configItem item value) := by
  unfold State.configItem
  dsimp only
  split
  · exact .single (.bump s _)
  · split
    · exact .single (.bump s _)
    · have stored (r : CommRecord) : Move s { s with station := { s.station with record := r } } :=
        .other rfl rfl rfl rfl rfl rfl
      split
      · exact .single (stored _)
      · exact .head (stored _) (.single (.bump _ _))

theorem State.hearOwnNumber_acts : Acts s s.hearOwnNumber := by
  unfold State.hearOwnNumber
  dsimp only
  split
  · exact (State.isolate_acts _ _).after (.bump s _)
  · exact .head (.move (.bump s .duplicateOwnNumber)) (.single (.move (.other rfl rfl rfl rfl rfl rfl)))

theorem State.acceptPost_move (p : Post) : Move s (s.acceptPost p) := .other rfl rfl rfl rfl rfl rfl

theorem State.afterAcceptance_moves (source : StationId) : Moves s (s.afterAcceptance source) := by
  unfold State.afterAcceptance
  dsimp only
  split
  · exact (State.report31_moves _).after (.other rfl rfl rfl rfl rfl rfl)
  · exact s.report31_moves

/-- The completion of an absorption adds acceptance and report to what the post's kind routes (R25 to R31). -/
theorem State.completeAbsorption_acts (about : Body → Bool) {route : Post → State → State}
    (routed : ∀ p t, Acts t (route p t)) : Acts s (s.completeAbsorption about route) := by
  have freed : Act s s.freeAbsorber := .move (.other rfl rfl rfl rfl rfl rfl)
  unfold State.completeAbsorption State.absorb
  dsimp only
  split
  · split
    · split
      · exact .head freed (State.hearOwnNumber_acts _)
      · split
        · exact .head freed (.single (.move (.bump _ _)))
        · exact .head freed (Acts.after ((routed _ _).trans (State.afterAcceptance_moves _ _).acts)
            (State.acceptPost_move _ _))
    · exact .refl
  · exact .refl

theorem routeOrder_acts {owner : Nat → State → State} (owned : ∀ a t, Acts t (owner a t)) (p : Post) :
    Acts s (routeOrder owner p s) := by
  unfold routeOrder
  split
  · split
    · split
      · exact owned _ s
      · exact .single (.move (.bump s _))
    · exact .refl
  · exact .refl

theorem State.refuseOrder_acts : Acts s s.refuseOrder := .single (.move (.bump s _))

theorem State.judgeRelease_acts : Acts s s.judgeRelease := by
  unfold State.judgeRelease
  split
  · exact s.readyAndPop_acts _ (by decide)
  · exact s.refuseOrder_acts

theorem State.judgeAcknowledge_acts (a : Nat) : Acts s (s.judgeAcknowledge a) := by
  unfold State.judgeAcknowledge
  split
  · exact s.readyAndPop_acts _ (by decide)
  · exact s.refuseOrder_acts

theorem State.judgeClearTrip_acts : Acts s s.judgeClearTrip := by
  unfold State.judgeClearTrip
  split
  · exact (Moves.acts (State.enterReady_moves _)).after (.other rfl rfl rfl rfl rfl rfl)
  · exact s.refuseOrder_acts

theorem State.judgeRestart_acts (straps : Fin 8) : Acts s (s.judgeRestart straps) := by
  unfold State.judgeRestart
  split
  · exact s.warmRestart_acts straps
  · exact s.refuseOrder_acts

theorem State.judgeLock_acts : Acts s s.judgeLock := by
  unfold State.judgeLock
  split
  · split
    · exact (s.alert_moves _ _).acts
    · exact (Moves.acts (State.enterReady_moves _)).after (.other rfl rfl rfl rfl rfl rfl)
  · exact s.refuseOrder_acts

theorem routeDemand_acts (p : Post) : Acts s (routeDemand p s) := by
  have station (t : State) (d : Direction) : Moves t (t.demandNoticeStation d) := by
    unfold State.demandNoticeStation
    split
    · exact .single (.other rfl rfl rfl rfl rfl rfl)
    · exact .refl
  have protection (t : State) : Moves t t.demandNoticeProtection := by
    unfold State.demandNoticeProtection
    split
    · exact (State.alert_moves _ _ _).after (.other rfl rfl rfl rfl rfl rfl)
    · exact .refl
  unfold routeDemand
  split
  · split
    · exact (Moves.acts ((station _ _).trans (protection _))).after (.other rfl rfl rfl rfl rfl rfl)
    · exact .refl
  · exact .refl

theorem routeConfig_acts (p : Post) : Acts s (routeConfig p s) := by
  unfold routeConfig
  split
  · split
    · exact (s.configItem_moves _ _).acts
    · exact .refl
  · exact .refl

theorem routeQuery_acts (p : Post) : Acts s (routeQuery p s) := by
  unfold routeQuery
  split
  · split
    · exact (s.offerReport_moves _).acts
    · exact .refl
  · exact .refl

theorem State.receiveStop_acts : Acts s s.receiveStop := s.receiveStop_moves.acts

/-! ### Every command -/

theorem State.withPending_move (q : List Instr) : Move s (s.withPending q) := .other rfl rfl rfl rfl rfl rfl

theorem State.showFaultLine_move (line : Bool) : Move s (s.showFaultLine line) := .other rfl rfl rfl rfl rfl rfl

theorem State.passBitTime_moves : Moves s s.passBitTime := by
  unfold State.passBitTime
  dsimp only
  split
  · exact .refl
  · refine (s.idleFor_moves 1).trans (.head (.port _ _ ?_ ?_ ?_ ?_) (.single (.other rfl rfl rfl rfl rfl rfl)))
    all_goals rfl

end

section
variable {s t : State}

open Host (Outcome)

theorem execColdReset_acts (run : execColdReset s = .next t) : Acts s t := by
  have departed : Acts s (if s.station.state = .run then s.departRun .coast else s) := by
    split
    · exact (s.departRun_moves _).acts
    · exact .refl
  have abandoned (a : State) : Moves a a.abandonOperations :=
    .head (.port a a.abandonOperations.bus rfl rfl rfl rfl)
      (.head (.converting _ none) (.single (.other rfl rfl rfl rfl rfl rfl)))
  cases run
  exact (departed.trans (abandoned _).acts).tail (.move (.other rfl rfl rfl rfl rfl rfl))

theorem execResetRelease_acts {straps : Fin 8} (run : execResetRelease straps s = .next t) :
    t = s ∨ Acts (s.released straps) t := by
  unfold execResetRelease at run
  dsimp only at run
  split at run
  · right
    split at run <;> cases run
    · split
      · exact Moves.acts ((State.startSelfCheck_moves _).trans (State.stopLineAsserted_moves _))
      · exact Moves.acts (State.startSelfCheck_moves _)
    · exact State.isolate_acts _ _
  · cases run
    exact .inl rfl

theorem execSelfCheckCompletion_acts {a b : List Nat} {line : Bool}
    (run : execSelfCheckCompletion a b line s = .next t) : Acts s t := by
  unfold execSelfCheckCompletion at run
  dsimp only at run
  split at run
  · split at run
    · split at run <;> cases run
      · refine Moves.acts (.head (.port s { s.bus with loopback := none } rfl rfl rfl rfl)
          ((State.leaveListen_moves _).after (.other ?_ ?_ ?_ ?_ ?_ ?_)))
        all_goals rfl
      · exact s.isolate_acts _
    · cases run
      exact .refl
  · cases run
    exact .refl

theorem State.afterPost_move (s : State) (levels : List Bool) (whole : Bool) : Move s (s.afterPost levels whole) :=
  .port s _ rfl rfl rfl rfl

theorem State.endReception_move (s : State) : Move s s.endReception := .port s _ rfl rfl rfl rfl

theorem execPostArrival_acts {levels : List Bool} (run : execPostArrival levels s = .next t) : Acts s t := by
  unfold execPostArrival at run
  split at run
  · split at run <;> cases run
    · exact Moves.acts (.tail ((State.joinRx_moves _ _).after s.endReception_move) (State.afterPost_move _ _ _))
    · exact .refl
  · cases run
    exact .refl

theorem execLineHeldEpisode_acts (run : execLineHeldEpisode s = .next t) : Acts s t := by
  unfold execLineHeldEpisode at run
  split at run <;> cases run
  · exact Moves.acts (((State.joinRx_moves _ _).after (.bump _ _)).after (.port s _ rfl rfl rfl rfl))
  · exact .refl

theorem execLineHeldEnd_acts (run : execLineHeldEnd s = .next t) : Acts s t := by
  unfold execLineHeldEnd at run
  split at run <;> cases run
  · exact .single (.move (.port s _ rfl rfl rfl rfl))
  · exact .refl

theorem State.beginAttempt_move (s : State) (b : Body) (seq : Nat) : Move s (s.beginAttempt b seq) :=
  .port s _ rfl rfl rfl rfl

theorem BusPort.takeCandidate_shrinks (b : BusPort) : b.takeCandidate.urgent.length ≤ b.urgent.length ∧
    b.takeCandidate.rx = b.rx ∧ b.takeCandidate.seq = b.seq ∧ b.takeCandidate.consecutive = b.consecutive := by
  unfold BusPort.takeCandidate
  split
  next h => simp [h]
  next h => split <;> simp [h]

theorem execPostTransmission_acts {waited : Nat} (run : execPostTransmission waited s = .next t) : Acts s t := by
  have idle := (s.idleFor_moves waited).acts
  unfold execPostTransmission at run
  dsimp only at run
  split at run
  · split at run
    · split at run <;> cases run
      · exact idle.tail (.move (State.beginAttempt_move _ _ _))
      · exact idle
    · split at run
      · split at run <;> cases run
        · obtain ⟨urgent, rx, seq, consecutive⟩ := (s.idleFor waited).bus.takeCandidate_shrinks
          exact (idle.tail (.drain _ _ urgent (by rw [rx]) (.inl seq) (.inl consecutive))).tail
            (.move (State.beginAttempt_move _ _ _))
        · exact idle
      · cases run
        exact idle
  · cases run
    exact .refl

theorem execTransmissionCompletion_acts (run : execTransmissionCompletion s = .next t) : Acts s t := by
  unfold execTransmissionCompletion at run
  split at run
  next bytes _ =>
    split at run <;> cases run
    · have counted : Moves s (s.endReception.bump .postsSent) := .head (State.endReception_move s) (.single (.bump _ _))
      have ended := Moves.acts (counted.tail (State.afterPost_move _ (postLevels bytes) true))
      exact ended.tail (.drain _ _ le_rfl le_rfl (.inr (Nat.mod_lt (s.bus.seq + 1) (Nat.zero_lt_succ 15)))
        (.inr (Nat.zero_lt_succ 15)))
    · exact .refl
  next =>
    cases run
    exact .refl

theorem execCollision_acts (run : execCollision s = .next t) : Acts s t := by
  have counted : Acts s (State.bump { s with bus := { s.bus with idleTime := 0 } } .collisions) :=
    Moves.acts (Moves.after (.single (.bump _ _)) (.port s _ rfl rfl rfl rfl))
  have emptied (a : State) : Act a { a with bus := { a.bus with tx := none, consecutive := 0 } } :=
    .drain a _ le_rfl le_rfl (.inl rfl) (.inr (Nat.zero_lt_succ 15))
  unfold execCollision at run
  dsimp only at run
  split at run
  · split at run
    · split at run
      · cases run
        exact counted.tail (emptied _)
      · split at run <;> cases run
        · exact (counted.tail (emptied _)).trans (Moves.acts (.single (.bump _ _)))
        · exact counted.tail (.drain _ _ le_rfl le_rfl (.inl rfl) (.inr (by dsimp only; omega)))
    · cases run
      exact .refl
  · cases run
    exact .refl

theorem execStartSymbol_acts {r : ActiveRun} (run : execStartSymbol r s = .next t) : Acts s t := by
  have idle := (s.idleFor_moves r.waited).tail (.port _ { (s.idleFor r.waited).bus with idleTime := 0 } rfl rfl rfl rfl)
  unfold execStartSymbol at run
  dsimp only at run
  split at run
  · split at run <;> cases run
    · exact Moves.acts (idle.tail (.port _ _ rfl rfl rfl rfl))
    · exact Moves.acts idle
  · cases run
    exact .refl

theorem execAbsorption_acts (run : execAbsorption s = .next t) : Acts s t := by
  unfold execAbsorption at run
  split at run
  · split at run <;> cases run
    next e rest _ queue =>
      exact .head (.drain s { s.bus with rx := rest } le_rfl (by simp [queue]) (.inl rfl) (.inl rfl))
        (.single (.move (.other rfl rfl rfl rfl rfl rfl)))
    next => exact .refl
  · cases run
    exact .refl

theorem execLineHeldEntry_acts (run : execLineHeldEntry s = .next t) : Acts s t := by
  unfold execLineHeldEntry at run
  repeat' split at run
  all_goals cases run
  · exact .single (.move (.other rfl rfl rfl rfl rfl rfl))
  all_goals exact .refl

theorem execTaggedPost_acts (run : execTaggedPost s = .next t) : Acts s t := by
  have freed : Move s s.freeAbsorber := .other rfl rfl rfl rfl rfl rfl
  unfold execTaggedPost at run
  repeat' split at run
  all_goals cases run
  · exact Moves.acts (.head freed (.single (.bump _ _)))
  · exact .refl
  · exact Moves.acts (.head freed (.single (.bump _ _)))
  all_goals exact .refl

theorem execPostPeriodExpiry_acts {line : Bool} (run : execPostPeriodExpiry line s = .next t) : Acts s t := by
  unfold execPostPeriodExpiry at run
  split at run <;> cases run
  · exact (s.expirePostPeriod_moves line).acts
  · exact .refl

theorem execListenIntervalEnd_acts {line : Bool} (run : execListenIntervalEnd line s = .next t) : Acts s t := by
  unfold execListenIntervalEnd at run
  split at run <;> cases run
  · exact (s.expirePostPeriod_moves line).acts
  · exact .refl

theorem execControlPeriodExpiry_acts {first : Bool} (run : execControlPeriodExpiry first s = .next t) : Acts s t := by
  have reloaded : Move s s.reloadControl := .other rfl rfl rfl rfl rfl rfl
  unfold execControlPeriodExpiry at run
  dsimp only at run
  split at run <;> cases run
  · split
    · exact Acts.after ((State.governorExpiry_moves _).acts.trans (State.othersExpiry_acts _)) reloaded
    · exact Acts.after ((State.othersExpiry_acts _).trans (State.governorExpiry_moves _).acts) reloaded
  · exact .refl

theorem execControlUpdateCompletion_acts (run : execControlUpdateCompletion s = .next t) : Acts s t := by
  unfold execControlUpdateCompletion at run
  split at run
  · split at run <;> cases run
    · split
      · exact s.completeDiscarded_moves.acts
      · exact (s.completeUpdate_moves _).acts
    · exact .refl
  · cases run
    exact .refl

theorem execConversionCompletion_acts {raw : Int} (run : execConversionCompletion raw s = .next t) : Acts s t := by
  unfold execConversionCompletion at run
  split at run
  · split at run <;> cases run
    · exact (s.completeConversion_moves _ raw).acts
    · exact .refl
  · cases run
    exact .refl

theorem execSuperframeCompletion_acts {running : Bool} (run : execSuperframeCompletion running s = .next t) :
    Acts s t := by
  unfold execSuperframeCompletion at run
  split at run <;> cases run
  · exact .refl
  · exact (s.completeSuperframe_moves running).acts

theorem execSpinUpCompletion_acts {running : Bool} (run : execSpinUpCompletion running s = .next t) : Acts s t := by
  unfold execSpinUpCompletion at run
  split at run <;> cases run
  · exact (s.completeSuperframe_moves running).acts
  · exact .refl

theorem execStopLineAsserted_acts (run : execStopLineAsserted s = .next t) : Acts s t := by
  unfold execStopLineAsserted at run
  dsimp only at run
  split at run <;> cases run
  · exact .refl
  · split
    · exact Moves.acts ((s.showStopLine_moves true).trans (State.stopLineAsserted_moves _))
    · exact (s.showStopLine_moves true).acts

/-- What a command does: a chain of acts, on the released state if it releases the reset line. -/
theorem exec_acts {c : Instr} (run : exec c s = .next t) :
    Acts s t ∨ ∃ straps, c = .resetRelease straps ∧ Acts (s.released straps) t := by
  cases c with
  | resetRelease straps =>
    obtain rfl | released := execResetRelease_acts run
    · exact .inl .refl
    · exact .inr ⟨straps, rfl, released⟩
  | coldReset => exact .inl (execColdReset_acts run)
  | selfCheckCompletion a b line => exact .inl (execSelfCheckCompletion_acts run)
  | postArrival levels => exact .inl (execPostArrival_acts run)
  | lineHeldEpisode => exact .inl (execLineHeldEpisode_acts run)
  | lineHeldEnd => exact .inl (execLineHeldEnd_acts run)
  | postTransmission waited => exact .inl (execPostTransmission_acts run)
  | transmissionCompletion => exact .inl (execTransmissionCompletion_acts run)
  | collision => exact .inl (execCollision_acts run)
  | absorption => exact .inl (execAbsorption_acts run)
  | lineHeldEntry => exact .inl (execLineHeldEntry_acts run)
  | taggedPost => exact .inl (execTaggedPost_acts run)
  | state | alert | report =>
    cases run
    exact .inl (s.completeAbsorption_acts _ fun _ _ => .refl)
  | demand =>
    cases run
    exact .inl (s.completeAbsorption_acts _ fun p t => routeDemand_acts t p)
  | config =>
    cases run
    exact .inl (s.completeAbsorption_acts _ fun p t => routeConfig_acts t p)
  | query =>
    cases run
    exact .inl (s.completeAbsorption_acts _ fun p t => routeQuery_acts t p)
  | stop =>
    cases run
    exact .inl (s.completeAbsorption_acts _ fun p t => routeOrder_acts t (fun _ t => t.receiveStop_acts) p)
  | release =>
    cases run
    exact .inl (s.completeAbsorption_acts _ fun p t => routeOrder_acts t (fun _ t => t.judgeRelease_acts) p)
  | clearTrip line =>
    cases run
    exact .inl (s.completeAbsorption_acts _ fun p t =>
      routeOrder_acts t (fun _ t => (State.judgeClearTrip_acts _).after (t.showFaultLine_move line)) p)
  | acknowledge =>
    cases run
    exact .inl (s.completeAbsorption_acts _ fun p t => routeOrder_acts t (fun a t => t.judgeAcknowledge_acts a) p)
  | restart straps =>
    cases run
    exact .inl (s.completeAbsorption_acts _ fun p t => routeOrder_acts t (fun _ t => t.judgeRestart_acts straps) p)
  | lock line =>
    cases run
    exact .inl (s.completeAbsorption_acts _ fun p t =>
      routeOrder_acts t (fun _ t => (State.judgeLock_acts _).after (t.showFaultLine_move line)) p)
  | postPeriodExpiry line => exact .inl (execPostPeriodExpiry_acts run)
  | listenIntervalEnd line => exact .inl (execListenIntervalEnd_acts run)
  | controlPeriodExpiry first => exact .inl (execControlPeriodExpiry_acts run)
  | controlUpdateCompletion => exact .inl (execControlUpdateCompletion_acts run)
  | conversionCompletion raw => exact .inl (execConversionCompletion_acts run)
  | superframeCompletion running => exact .inl (execSuperframeCompletion_acts run)
  | spinUpCompletion running => exact .inl (execSpinUpCompletion_acts run)
  | stopLineAsserted => exact .inl (execStopLineAsserted_acts run)
  | stopLineInactive =>
    cases run
    exact .inl (s.showStopLine_moves false).acts
  | powerStageFault =>
    cases run
    exact .inl ((State.receiveCause_moves _ _).acts.after (s.showFaultLine_move true))
  | startSymbol r => exact .inl (execStartSymbol_acts run)

end
end Sys2Proof.Machine
end

section
/-! SUPPORT. The invariants of stack, fault-order list and queues, each kept by every link of a chain of acts, and the
bounds of the counters. -/

namespace Sys2Proof.Machine

/-! ### Invariants along chains -/

section
variable {P : State → Prop} (move : ∀ {s t : State}, Move s t → P s → P t)
include move

theorem Moves.keeps {s t : State} (h : Moves s t) (start : P s) : P t := by
  induction h with
  | refl => exact start
  | tail _ last ih => exact move last ih

variable (pop : ∀ s : State, P s → P s.pop)
  (drain : ∀ (s : State) (b : BusPort), b.urgent.length ≤ s.bus.urgent.length → b.rx.length ≤ s.bus.rx.length →
    b.seq = s.bus.seq ∨ b.seq < 16 → b.consecutive = s.bus.consecutive ∨ b.consecutive < 16 → P s →
    P { s with bus := b })
  (coldProt : ∀ (s : State) (level : Bool), P s → P { s with prot := { Protection.cold with stopLine := level } })
include pop drain coldProt

/-- What every link keeps, a chain of acts keeps. -/
theorem Acts.keeps {s t : State} (h : Acts s t) (start : P s) : P t := by
  induction h with
  | refl => exact start
  | tail _ last ih =>
    cases last with
    | move m => exact move m ih
    | pop => exact pop _ ih
    | drain b urgent rx seq consecutive => exact drain _ b urgent rx seq consecutive ih
    | coldProt level => exact coldProt _ level ih

/-- What every link and the release of the reset line keep, every step keeps. -/
theorem step_keeps (released : ∀ (s : State) (straps : Fin 8), P (s.released straps)) {s t : State} (start : P s)
    (run : step s = .next t) : P t := by
  cases queue : s.pending with
  | nil =>
    rw [step_of_empty queue] at run
    cases run
    exact Moves.keeps move s.passBitTime_moves start
  | cons c rest =>
    rw [step_of_pending queue] at run
    obtain acts | ⟨straps, -, acts⟩ := exec_acts run
    · exact Acts.keeps move pop drain coldProt acts (move (s.withPending_move rest) start)
    · exact Acts.keeps move pop drain coldProt acts (released _ straps)

end

/-! ### The fault-order list (R53) -/

theorem Channel.mem_all (c : Channel) : c ∈ [Channel.wheelSpeed, .torqueFb, .linkVoltage, .windingTemp,
    .gridElementTemp, .gridAirTemp, .gridCurrent] := by cases c <;> decide

/-- The fault-order list of a measurement unit lists its faulted channels, each once. -/
def Measurement.FaultsListed (m : Measurement) : Prop :=
  m.faultOrder.Nodup ∧ ∀ c, c ∈ m.faultOrder ↔ (m.channels.get c).faulted = true

theorem State.faultOrderInv_iff {s : State} : s.FaultOrderInv ↔ s.meas.FaultsListed :=
  ⟨fun ⟨nodup, faulted, listed⟩ => ⟨nodup, fun c => ⟨faulted c, listed c c.mem_all⟩⟩,
    fun ⟨nodup, iff⟩ => ⟨nodup, fun c => (iff c).1, fun c _ => (iff c).2⟩⟩

theorem Move.keeps_faultsListed {s t : State} (m : Move s t) (h : s.meas.FaultsListed) : t.meas.FaultsListed := by
  obtain ⟨nodup, listed⟩ := h
  cases m with
  | other _ _ meas => exact meas ▸ ⟨nodup, listed⟩
  | record c r faulted =>
    refine ⟨nodup, fun d => (listed d).trans ?_⟩
    by_cases same : c = d
    · subst same
      simp [State.setChannel, faulted]
    · simp [State.setChannel, Channels.get_set_other _ _ same]
  | fault c sound =>
    have fresh : c ∉ s.meas.faultOrder := fun mem => by simp [(listed c).1 mem] at sound
    refine ⟨List.nodup_append.2 ⟨nodup, by simp, by simpa using fun a mem => (ne_of_mem_of_not_mem mem fresh)⟩,
      fun d => ?_⟩
    by_cases same : c = d
    · subst same
      simp [State.markFaulted]
    · simp [State.markFaulted, Channels.get_set_other _ _ same, listed, Ne.symm same]
  | returned c =>
    refine ⟨nodup.erase c, fun d => ?_⟩
    by_cases same : c = d
    · subst same
      simp [State.returnChannel, nodup.not_mem_erase]
    · simp [State.returnChannel, Channels.get_set_other _ _ same, listed, nodup.mem_erase_iff, Ne.symm same]
  | _ => exact ⟨nodup, listed⟩

theorem State.pop_keeps_faultsListed (s : State) (h : s.meas.FaultsListed) : s.pop.meas.FaultsListed :=
  Moves.keeps (P := fun s => s.meas.FaultsListed) Move.keeps_faultsListed s.pop_moves h

theorem released_faultsListed (s : State) (straps : Fin 8) : (s.released straps).meas.FaultsListed :=
  ⟨List.nodup_nil, fun c => by cases c <;> exact ⟨nofun, nofun⟩⟩

/-! ### Queues, sequence number and collision count (R9, R11, R13, R18) -/

theorem Move.keeps_queueInv {s t : State} (m : Move s t) (h : s.QueueInv) : t.QueueInv := by
  obtain ⟨urgent, rx, seq, consecutive⟩ := h
  cases m with
  | other bus => rw [State.QueueInv, bus]; exact ⟨urgent, rx, seq, consecutive⟩
  | offer b room => exact ⟨by simpa using room, rx, seq, consecutive⟩
  | join e room => exact ⟨urgent, by simpa using room, seq, consecutive⟩
  | port b urgent' rx' seq' consecutive' =>
    exact ⟨urgent' ▸ urgent, rx' ▸ rx, seq' ▸ seq, consecutive' ▸ consecutive⟩
  | _ => exact ⟨urgent, rx, seq, consecutive⟩


theorem State.pop_queueInv {s : State} (h : s.QueueInv) : s.pop.QueueInv :=
  Moves.keeps (P := State.QueueInv) Move.keeps_queueInv s.pop_moves h

theorem released_queueInv (s : State) (straps : Fin 8) : (s.released straps).QueueInv :=
  ⟨Nat.zero_le 4, Nat.zero_le 8, Nat.zero_lt_succ 15, Nat.zero_lt_succ 15⟩

/-! ### The response stack (R156, R157) -/

/-- Stack and sets are as R156 and R157 say, but for the levels of pending classes, which a pop leaves below the top
level until its last work. -/
structure Protection.Apart (p : Protection) : Prop where
  ordered : p.StackOrdered
  pendingSorted : (p.pendingSet.map ProtClass.level).Pairwise (· < ·)
  deferredSorted : (p.deferredSet.map ProtClass.level).Pairwise (· < ·)
  pending : ∀ c ∈ p.pendingSet, p.onStack c = false ∧ c ≠ .stop ∧ c ≠ .base
  deferred : ∀ c ∈ p.deferredSet, p.onStack c = false ∧ c ∉ p.pendingSet ∧ c ≠ .base

/-- Every pending class has a level greater than the top level (R157). -/
def Protection.Waits (p : Protection) : Prop := ∀ c ∈ p.pendingSet, p.topLevel < c.level

theorem State.stackInv_iff {s : State} : s.StackInv ↔ s.prot.Apart ∧ s.prot.Waits :=
  ⟨fun ⟨ordered, pendingSorted, deferredSorted, pending, deferred⟩ =>
    ⟨⟨ordered, pendingSorted, deferredSorted, fun c mem => (pending c mem).2, deferred⟩,
      fun c mem => (pending c mem).1⟩,
    fun ⟨h, waits⟩ => ⟨h.ordered, h.pendingSorted, h.deferredSorted, fun c mem => ⟨waits c mem, h.pending c mem⟩,
      h.deferred⟩⟩

section
variable {p : Protection}

theorem Protection.onStack_eq_false_iff {c : ProtClass} : p.onStack c = false ↔ ∀ x ∈ p.stack, x.cls ≠ c := by
  simp [Protection.onStack]


theorem Protection.Apart.base_mem (h : p.Apart) : Context.base ∈ p.stack := List.mem_of_getLast? h.ordered.1

theorem Protection.Apart.ne_base_of_off (h : p.Apart) {c : ProtClass} (off : p.onStack c = false) : c ≠ .base :=
  fun eq => Protection.onStack_eq_false_iff.1 off _ h.base_mem eq.symm

theorem Protection.Apart.topLevel_le (h : p.Apart) : ∀ x ∈ p.stack, p.topLevel ≤ x.cls.level :=
  (Protection.rising_of_stackOrdered h.ordered).topLevel_le

/-- The top of a stack that has BASE at its bottom is one of its contexts. -/
theorem Protection.Apart.top_mem (h : p.Apart) : p.onStack p.top = true := by
  rw [Protection.onStack_iff]
  unfold Protection.top
  split
  next x rest eq => exact ⟨x, by simp [eq], rfl⟩
  next eq => exact absurd h.base_mem (by simp [eq])

/-- A class that is not on the stack and not below the top is above it. -/
theorem Protection.Apart.topLevel_lt (h : p.Apart) {c : ProtClass} (off : p.onStack c = false)
    (above : p.topLevel ≤ c.level) : p.topLevel < c.level := by
  refine lt_of_le_of_ne above fun same => ?_
  have top : p.top = c := ProtClass.level_injective same
  exact Bool.false_ne_true (off.symm.trans (top ▸ h.top_mem))

theorem Protection.Apart.pending_nodup (h : p.Apart) : p.pendingSet.Nodup :=
  (List.pairwise_map.1 h.pendingSorted).imp fun lt eq => lt.ne (congrArg _ eq)

end

theorem insertClasses_sorted {l d : List ProtClass} (sorted : (d.map ProtClass.level).Pairwise (· < ·)) :
    ((l.foldl (fun d c => insertClass c d) d).map ProtClass.level).Pairwise (· < ·) := by
  induction l generalizing d with
  | nil => exact sorted
  | cons c rest ih => exact ih (insertClass_sorted sorted)

theorem mem_insertClasses {l d : List ProtClass} {c : ProtClass} :
    c ∈ l.foldl (fun d c => insertClass c d) d ↔ c ∈ l ∨ c ∈ d := by
  induction l generalizing d with
  | nil => simp
  | cons x rest ih =>
    rw [List.foldl_cons, ih, mem_insertClass, List.mem_cons]
    tauto

theorem onStack_contexts {p : Protection} {f : Context → Context} (edit : ContextEdit f) (c : ProtClass) :
    Protection.onStack { p with stack := p.stack.map f } c = p.onStack c := by
  simp [Protection.onStack, Function.comp_def, edit.1]

theorem topLevel_contexts {p : Protection} {f : Context → Context} (edit : ContextEdit f) :
    Protection.topLevel { p with stack := p.stack.map f } = p.topLevel := by
  unfold Protection.topLevel Protection.top
  cases p.stack with
  | nil => rfl
  | cons x rest => exact congrArg ProtClass.level (edit.1 x)

theorem stackOrdered_contexts {p : Protection} {f : Context → Context} (edit : ContextEdit f) (h : p.StackOrdered) :
    Protection.StackOrdered { p with stack := p.stack.map f } := by
  obtain ⟨base, rising⟩ := h
  exact ⟨by simp [List.getLast?_map, base, edit.2], by simpa [Function.comp_def, edit.1] using rising⟩

theorem Move.keeps_apart {s t : State} (m : Move s t) (h : s.prot.Apart) : t.prot.Apart := by
  have ⟨⟨base, rising⟩, pendingSorted, deferredSorted, pending, deferred⟩ := h
  cases m with
  | other _ _ _ stack pendingSet deferredSet =>
    have onStack (c : ProtClass) : t.prot.onStack c = s.prot.onStack c := by simp [Protection.onStack, stack]
    exact ⟨⟨stack ▸ base, stack ▸ rising⟩, pendingSet ▸ pendingSorted, deferredSet ▸ deferredSorted,
      by simpa [pendingSet, onStack] using pending, by simpa [pendingSet, deferredSet, onStack] using deferred⟩
  | contexts f edit =>
    refine ⟨stackOrdered_contexts edit h.ordered, pendingSorted, deferredSorted, fun c mem => ?_, fun c mem => ?_⟩
    · rw [onStack_contexts edit]
      exact pending c mem
    · rw [onStack_contexts edit]
      exact deferred c mem
  | push c below free =>
    have erased (d : ProtClass) : d ∈ s.prot.pendingSet.erase c ↔ d ≠ c ∧ d ∈ s.prot.pendingSet :=
      h.pending_nodup.mem_erase_iff
    have fresh : ∀ d ∈ s.prot.deferredSet, c ≠ d := by
      rintro d mem rfl
      obtain ⟨-, notDeferred⟩ | ⟨rest, lowest⟩ := free
      · exact notDeferred mem
      · obtain ⟨-, notPending, -⟩ := deferred c mem
        exact notPending (by simp [lowest])
    refine ⟨⟨?_, List.pairwise_cons.2 ⟨?_, rising⟩⟩, pendingSorted.sublist (List.Sublist.map _ List.erase_sublist),
      deferredSorted, fun d mem => ?_, fun d mem => ?_⟩
    · dsimp only
      rw [List.getLast?_cons, base]
      rfl
    · intro level mem
      obtain ⟨x, on, rfl⟩ := List.mem_map.1 mem
      exact below.trans_le (h.topLevel_le x on)
    · obtain ⟨other, mem⟩ := (erased d).1 mem
      obtain ⟨off, kinds⟩ := pending d mem
      exact ⟨by simpa [Protection.onStack, State.newContext, other.symm] using off, kinds⟩
    · obtain ⟨off, notPending, kind⟩ := deferred d mem
      exact ⟨by simpa [Protection.onStack, State.newContext, fresh d mem] using off,
        fun mem => notPending ((erased d).1 mem).2, kind⟩
  | defer c below off notPending =>
    refine ⟨h.ordered, pendingSorted, insertClass_sorted deferredSorted, pending, fun d mem => ?_⟩
    obtain rfl | mem := mem_insertClass.1 mem
    · refine ⟨off, ?_, h.ne_base_of_off off⟩
      obtain notPending | rfl := notPending
      · exact notPending
      · exact fun mem => (pending _ mem).2.1 rfl
    · exact deferred d mem
  | pend c above off notDeferred =>
    refine ⟨h.ordered, insertClass_sorted pendingSorted, deferredSorted, fun d mem => ?_, fun d mem => ?_⟩
    · obtain rfl | mem := mem_insertClass.1 mem
      · refine ⟨off, ?_, h.ne_base_of_off off⟩
        rintro rfl
        exact absurd (Protection.stop_below_top off) (not_lt.2 above)
      · exact pending d mem
    · obtain ⟨off', notPending, kind⟩ := deferred d mem
      refine ⟨off', fun mem' => ?_, kind⟩
      obtain rfl | mem' := mem_insertClass.1 mem'
      · exact notDeferred mem
      · exact notPending mem'
  | withdraw c =>
    exact ⟨h.ordered, pendingSorted.sublist (List.Sublist.map _ List.erase_sublist), deferredSorted,
      fun d mem => pending d (List.mem_of_mem_erase mem), fun d mem =>
        have ⟨off, notPending, kind⟩ := deferred d mem
        ⟨off, fun mem => notPending (List.mem_of_mem_erase mem), kind⟩⟩
  | promote =>
    refine ⟨h.ordered, pendingSorted.sublist (List.Sublist.map _ List.filter_sublist),
      insertClasses_sorted deferredSorted, fun d mem => pending d (List.mem_of_mem_filter mem), fun d mem => ?_⟩
    obtain mem | mem := mem_insertClasses.1 mem
    · obtain ⟨mem, below⟩ := List.mem_filter.1 mem
      obtain ⟨off, -, kind⟩ := pending d mem
      exact ⟨off, fun mem => by simp_all, kind⟩
    · obtain ⟨off, notPending, kind⟩ := deferred d mem
      exact ⟨off, fun mem => notPending (List.mem_of_mem_filter mem), kind⟩
  | undefer => exact ⟨h.ordered, pendingSorted, .nil, pending, nofun⟩
  | _ => exact h

theorem Move.keeps_waits {s t : State} (m : Move s t) (h : s.prot.Apart) (waits : s.prot.Waits) : t.prot.Waits := by
  cases m with
  | other _ _ _ stack pendingSet =>
    have top : t.prot.topLevel = s.prot.topLevel := by simp [Protection.topLevel, Protection.top, stack]
    simpa [Protection.Waits, pendingSet, top] using waits
  | contexts f edit =>
    intro c mem
    rw [topLevel_contexts edit]
    exact waits c mem
  | push c below => exact fun d mem => below.trans (waits d (List.mem_of_mem_erase mem))
  | pend c above off =>
    intro d mem
    obtain rfl | mem := mem_insertClass.1 mem
    · exact h.topLevel_lt off above
    · exact waits d mem
  | withdraw c => exact fun d mem => waits d (List.mem_of_mem_erase mem)
  | promote => exact fun d mem => waits d (List.mem_of_mem_filter mem)
  | _ => exact waits

theorem Move.keeps_stackInv {s t : State} (m : Move s t) (h : s.StackInv) : t.StackInv := by
  obtain ⟨apart, waits⟩ := State.stackInv_iff.1 h
  exact State.stackInv_iff.2 ⟨m.keeps_apart apart, m.keeps_waits apart waits⟩

/-- Removing clear-ready contexts from the top leaves BASE, which is never clear-ready. -/
theorem State.dropReady_apart {s : State} (h : s.prot.Apart) : s.dropReady.prot.Apart := by
  obtain ⟨⟨base, rising⟩, pendingSorted, deferredSorted, pending, deferred⟩ := h
  have suffix : s.prot.stack.dropWhile Context.clearReady <:+ s.prot.stack := List.dropWhile_suffix _
  have off {c : ProtClass} (h : s.prot.onStack c = false) : s.dropReady.prot.onStack c = false :=
    Protection.onStack_eq_false_iff.2 fun x mem => Protection.onStack_eq_false_iff.1 h x (suffix.subset mem)
  refine ⟨⟨?_, rising.sublist (List.Sublist.map _ suffix.sublist)⟩, pendingSorted, deferredSorted, fun c mem => ?_,
    fun c mem => ?_⟩
  · have bottom : Context.base ∈ s.prot.stack := List.mem_of_getLast? base
    obtain ⟨popped, eq⟩ := suffix
    have kept : s.prot.stack.dropWhile Context.clearReady ≠ [] :=
      fun nil => absurd (List.dropWhile_eq_nil_iff.1 nil _ bottom) (by decide)
    change (s.prot.stack.dropWhile Context.clearReady).getLast? = _
    rw [← base, ← eq, List.getLast?_append_of_ne_nil _ kept, eq]
  · obtain ⟨h, kinds⟩ := pending c mem
    exact ⟨off h, kinds⟩
  · obtain ⟨h, rest⟩ := deferred c mem
    exact ⟨off h, rest⟩

/-- The last work of a pop leaves no class pending below the top (R165). -/
theorem State.promotePending_waits {s : State} (h : s.prot.Apart) : s.promotePending.prot.Waits := by
  have above {c : ProtClass} (mem : c ∈ s.prot.pendingSet) (le : s.prot.topLevel ≤ c.level) :
      s.prot.topLevel < c.level := h.topLevel_lt (h.pending c mem).1 le
  obtain ⟨-, eq⟩ | ⟨-, c, rest, lowest, below, eq⟩ | ⟨-, lowest, eq⟩ := s.promotePending_cases <;> rw [eq]
  · intro d mem
    obtain ⟨mem, le⟩ := List.mem_filter.1 mem
    exact above mem (by simpa using le)
  · have sorted := h.pendingSorted
    rw [lowest, List.map_cons, List.pairwise_cons] at sorted
    rw [State.take_prot, lowest]
    intro d mem
    exact sorted.1 _ (List.mem_map_of_mem (by simpa using mem))
  · intro d mem
    cases queue : s.prot.pendingSet with
    | nil => simp [queue] at mem
    | cons c rest =>
      have sorted := h.pendingSorted
      rw [queue, List.map_cons, List.pairwise_cons] at sorted
      refine above mem ((lowest c rest queue).trans ?_)
      obtain rfl | mem := List.mem_cons.1 (queue ▸ mem)
      · exact le_rfl
      · exact (sorted.1 _ (List.mem_map_of_mem mem)).le

theorem State.pop_stackInv {s : State} (h : s.prot.Apart) : s.pop.StackInv := by
  have popped := Moves.keeps (P := fun s => s.prot.Apart) Move.keeps_apart
    (s.dropReady.afterPops_moves (s.prot.stack.takeWhile Context.clearReady)) (State.dropReady_apart h)
  exact State.stackInv_iff.2 ⟨Moves.keeps (P := fun s => s.prot.Apart) Move.keeps_apart
    (State.promotePending_moves _) popped, State.promotePending_waits popped⟩

theorem cold_stackInv (s : State) (level : Bool) :
    State.StackInv { s with prot := { Protection.cold with stopLine := level } } :=
  ⟨⟨rfl, List.pairwise_singleton _ _⟩, .nil, .nil, nofun, nofun⟩

end Sys2Proof.Machine

open Sys2Proof Sys2Proof.Machine

/-- Settles O7: every move keeps stack and sets apart, and a pop's last work restores the levels of the pending set. -/
theorem stepKeepsStack : Obligations.StepKeepsStack := fun _ _ =>
  step_keeps (P := State.StackInv) Move.keeps_stackInv
    (fun _ h => State.pop_stackInv (State.stackInv_iff.1 h).1) (fun _ _ _ _ _ _ h => h)
    (fun s level _ => cold_stackInv s level) (fun s straps => cold_stackInv (s.released straps) s.pins.stopLine)

/-- Settles O10: a channel joins the list as it is marked faulted and leaves it as it returns to service. -/
theorem stepKeepsFaultOrder : Obligations.StepKeepsFaultOrder := fun _ _ start run =>
  State.faultOrderInv_iff.2 (step_keeps (P := fun s => s.meas.FaultsListed) Move.keeps_faultsListed
    State.pop_keeps_faultsListed (fun _ _ _ _ _ _ h => h) (fun _ _ h => h) released_faultsListed
    (State.faultOrderInv_iff.1 start) run)

/-- Settles O12: offers and joins look for room first, and every other write to the port shortens its queues. -/
theorem stepKeepsQueues : Obligations.StepKeepsQueues := fun _ _ =>
  step_keeps (P := State.QueueInv) Move.keeps_queueInv (fun _ => State.pop_queueInv)
    (fun _ _ urgent rx seq consecutive ⟨urgent', rx', seq', consecutive'⟩ => ⟨urgent.trans urgent', rx.trans rx',
      seq.elim (· ▸ seq') id, consecutive.elim (· ▸ consecutive') id⟩)
    (fun _ _ h => h) released_queueInv

end

section
/-! SUPPORT. What holds of every command: it answers a next state and leaves the queue alone, the states RESET and ISOLATED
are left only by their own commands, a locked record stays, and the counters only grow. -/

namespace Sys2Proof.Machine

open Host (Outcome)

/-! ### Answers -/

/-- The outcome is a next state with the queue that `s` has. -/
def Answers (o : Outcome State Fault Refusal) (s : State) : Prop := ∃ t, o = .next t ∧ t.pending = s.pending

theorem Answers.next {s t : State} (h : t.pending = s.pending) : Answers (.next t) s := ⟨t, rfl, h⟩

section
variable (s : State)

theorem State.warmRestart_pending (straps : Fin 8) : (s.warmRestart straps).pending = s.pending := by
  have raises := foldl_keeps (fun t => t.pending) (fun t c => t.raiseWith false .sensorFault (some c))
    fun t c => State.raiseWith_pending t _ _ _
  unfold State.warmRestart State.restartRaises
  dsimp only
  repeat' split
  all_goals simp [raises]

theorem State.completeAbsorption_pending (about : Body → Bool) {route : Post → State → State}
    (routed : ∀ p t, (route p t).pending = t.pending) : (s.completeAbsorption about route).pending = s.pending := by
  unfold State.completeAbsorption State.absorb State.afterAcceptance
  dsimp only
  repeat' split
  all_goals simp [routed]

theorem routeOrder_pending {owner : Nat → State → State} (owned : ∀ a t, (owner a t).pending = t.pending) (p : Post) :
    (routeOrder owner p s).pending = s.pending := by
  unfold routeOrder
  repeat' split
  all_goals simp [owned]

theorem State.judgeRestart_pending (straps : Fin 8) : (s.judgeRestart straps).pending = s.pending := by
  unfold State.judgeRestart
  split <;> simp [s.warmRestart_pending]

theorem routeDemand_pending (p : Post) : (routeDemand p s).pending = s.pending := by
  unfold routeDemand
  repeat' split
  all_goals simp

theorem routeConfig_pending (p : Post) : (routeConfig p s).pending = s.pending := by
  unfold routeConfig
  repeat' split
  all_goals simp

theorem routeQuery_pending (p : Post) : (routeQuery p s).pending = s.pending := by
  unfold routeQuery
  repeat' split
  all_goals simp

theorem State.expirePostPeriod_pending (line : Bool) : (s.expirePostPeriod line).pending = s.pending := by
  simp [State.expirePostPeriod]

theorem State.othersExpiry_pending : s.othersExpiry.pending = s.pending := by
  unfold State.othersExpiry
  split <;> simp

theorem State.completeUpdate_pending (n : Snapshot) : (s.completeUpdate n).pending = s.pending := by
  simp [State.completeUpdate]

theorem State.completeDiscarded_pending : s.completeDiscarded.pending = s.pending := by
  simp [State.completeDiscarded]

theorem State.completeConversion_pending (c : Channel) (raw : Int) : (s.completeConversion c raw).pending = s.pending := by
  simp [State.completeConversion]

theorem State.completeSuperframe_pending (running : Bool) : (s.completeSuperframe running).pending = s.pending := by
  simp [State.completeSuperframe]

theorem exec_answers (c : Instr) : Answers (exec c s) s := by
  cases c with
  | coldReset =>
    refine .next ?_
    dsimp only
    split <;> simp [State.abandonOperations]
  | resetRelease straps =>
    simp only [exec, execResetRelease]
    (repeat' split) <;> exact .next (by simp [State.released])
  | selfCheckCompletion a b line =>
    simp only [exec, execSelfCheckCompletion]
    (repeat' split) <;> exact .next (by simp)
  | postArrival levels =>
    simp only [exec, execPostArrival]
    (repeat' split) <;> exact .next (by simp)
  | postTransmission waited =>
    simp only [exec, execPostTransmission]
    (repeat' split) <;> exact .next (by simp)
  | state | alert | report => exact .next (s.completeAbsorption_pending _ fun _ _ => rfl)
  | demand => exact .next (s.completeAbsorption_pending _ fun p t => routeDemand_pending t p)
  | config => exact .next (s.completeAbsorption_pending _ fun p t => routeConfig_pending t p)
  | query => exact .next (s.completeAbsorption_pending _ fun p t => routeQuery_pending t p)
  | stop | release | clearTrip | acknowledge | restart | lock =>
    exact .next (s.completeAbsorption_pending _ fun p t => routeOrder_pending t (by
      simp [State.judgeRestart_pending]) p)
  | controlPeriodExpiry first =>
    simp only [exec, execControlPeriodExpiry]
    (repeat' split) <;> exact .next (by simp [State.othersExpiry_pending])
  | controlUpdateCompletion =>
    simp only [exec, execControlUpdateCompletion]
    (repeat' split) <;> exact .next (by simp [State.completeUpdate_pending, State.completeDiscarded_pending])
  | conversionCompletion raw =>
    simp only [exec, execConversionCompletion]
    (repeat' split) <;> exact .next (by simp [State.completeConversion_pending])
  | superframeCompletion running =>
    simp only [exec, execSuperframeCompletion]
    split <;> exact .next (by simp [State.completeSuperframe_pending])
  | spinUpCompletion running =>
    simp only [exec, execSpinUpCompletion]
    split <;> exact .next (by simp [State.completeSuperframe_pending])
  | postPeriodExpiry line =>
    simp only [exec, execPostPeriodExpiry]
    split <;> exact .next (by simp [State.expirePostPeriod_pending])
  | listenIntervalEnd line =>
    simp only [exec, execListenIntervalEnd]
    split <;> exact .next (by simp [State.expirePostPeriod_pending])
  | lineHeldEpisode =>
    simp only [exec, execLineHeldEpisode]
    split <;> exact .next (by simp)
  | lineHeldEnd =>
    simp only [exec, execLineHeldEnd]
    split <;> exact .next rfl
  | transmissionCompletion =>
    simp only [exec, execTransmissionCompletion]
    (repeat' split) <;> exact .next (by simp)
  | collision =>
    simp only [exec, execCollision]
    (repeat' split) <;> exact .next (by simp)
  | absorption =>
    simp only [exec, execAbsorption]
    (repeat' split) <;> exact .next rfl
  | lineHeldEntry =>
    simp only [exec, execLineHeldEntry]
    (repeat' split) <;> exact .next rfl
  | taggedPost =>
    simp only [exec, execTaggedPost]
    (repeat' split) <;> exact .next rfl
  | stopLineAsserted =>
    simp only [exec, execStopLineAsserted]
    split
    · exact .next rfl
    · split <;> exact .next (by simp)
  | stopLineInactive => exact .next (by simp)
  | powerStageFault => exact .next (by simp)
  | startSymbol run =>
    simp only [exec, execStartSymbol]
    (repeat' split) <;> exact .next (by simp)

/-! ### The states in which the station is dead: RESET and ISOLATED -/

variable {s} (dead : s.station.state.live = false)
include dead

theorem State.raise_of_dead (c : ProtClass) (ch : Option Channel) : s.raise c ch = s := by simp [State.raise, dead]

theorem State.judge_of_dead (c : ProtClass) (holds : Bool) : s.judge c holds = s := by
  cases holds <;> simp [State.judge, State.raise, dead]

theorem State.receiveCause_of_dead (c : TripCause) : s.receiveCause c = s := by
  unfold State.receiveCause
  split <;> simp_all [StationState.live]

theorem State.completeAbsorption_of_dead (about : Body → Bool) (route : Post → State → State) :
    s.completeAbsorption about route = s := by
  unfold State.completeAbsorption
  split <;> simp [dead]

theorem State.showStopLine_of_dead (level : Bool) :
    s.showStopLine level = { s with pins := { s.pins with stopLine := level } } := by
  simp [State.showStopLine, dead]

theorem State.not_posts_of_dead : s.station.state.posts = false := by
  revert dead
  cases s.station.state <;> decide

theorem State.ne_listen_of_dead : s.station.state ≠ .listen := by
  rintro eq
  rw [eq] at dead
  cases dead

omit dead in
theorem State.offerUrgent_of_isolated (isolated : s.station.state = .isolated) (b : Body) : s.offerUrgent b = s := by
  simp [State.offerUrgent, isolated]

omit dead in
theorem State.countSpinUp_of_isolated (isolated : s.station.state = .isolated) (running : Bool) :
    (s.countSpinUp running).station = s.station ∧ (s.countSpinUp running).counters = s.counters := by
  unfold State.countSpinUp State.spinUpCheck State.alert
  dsimp only
  repeat' split
  all_goals simp [State.offerUrgent, isolated]

omit dead in
/-- A superframe completes in ISOLATED too, but nothing is counted there and the state stays. -/
theorem State.completeSuperframe_of_isolated (isolated : s.station.state = .isolated) (running : Bool) :
    (s.completeSuperframe running).station = s.station ∧ (s.completeSuperframe running).counters = s.counters := by
  have dead : s.stepThermal.station.state.live = false := by simp [isolated, StationState.live]
  unfold State.completeSuperframe State.judgeGridOpen
  simp only [State.judge_of_dead dead]
  split
  · rw [State.receiveCause_of_dead (by simpa using dead)]
    simpa using State.countSpinUp_of_isolated
      (s := { s.stepThermal with grid := { s.stepThermal.grid with openCounter := 0 } }) (by simpa using isolated) running
  · simpa using State.countSpinUp_of_isolated
      (s := { s.stepThermal with grid := { s.stepThermal.grid with openCounter := s.stepThermal.nextOpenCounter } })
      (by simpa using isolated) running

/-- In RESET and ISOLATED no command but those of the reset line changes the station or counts anything. -/
theorem exec_of_dead {c : Instr} {t : State} (run : exec c s = .next t) (other : c ≠ .coldReset)
    (unreleased : s.station.state = .reset → ∀ straps, c ≠ .resetRelease straps) :
    t.station = s.station ∧ t.counters = s.counters := by
  have quiet := s.not_posts_of_dead dead
  have heard := s.ne_listen_of_dead dead
  cases c with
  | coldReset => exact absurd rfl other
  | resetRelease straps =>
    have state : s.station.state ≠ .reset := fun eq => unreleased eq straps rfl
    simp only [exec, execResetRelease, state] at run
    cases run
    exact ⟨rfl, rfl⟩
  | superframeCompletion running =>
    simp only [exec, execSuperframeCompletion] at run
    split at run <;> cases run
    · exact ⟨rfl, rfl⟩
    next released =>
      refine State.completeSuperframe_of_isolated ?_ running
      revert dead released
      cases s.station.state <;> decide
  | spinUpCompletion running =>
    simp only [exec, execSpinUpCompletion] at run
    split at run <;> cases run
    next released =>
      refine State.completeSuperframe_of_isolated ?_ running
      revert dead released
      cases s.station.state <;> simp [StationState.live]
    next => exact ⟨rfl, rfl⟩
  | stopLineAsserted =>
    simp only [exec, execStopLineAsserted, dead] at run
    split at run <;> cases run <;> simp
  | stopLineInactive =>
    cases run
    simp [State.showStopLine_of_dead dead]
  | powerStageFault =>
    cases run
    rw [State.receiveCause_of_dead (by simpa using dead)]
    exact ⟨rfl, rfl⟩
  | selfCheckCompletion a b line =>
    simp only [exec, execSelfCheckCompletion, heard] at run
    split at run <;> cases run <;> exact ⟨rfl, rfl⟩
  | collision =>
    simp only [exec, execCollision, dead] at run
    split at run <;> cases run <;> exact ⟨rfl, rfl⟩
  | transmissionCompletion =>
    simp only [exec, execTransmissionCompletion, dead] at run
    split at run <;> cases run <;> exact ⟨rfl, rfl⟩
  | postTransmission waited =>
    simp only [exec, execPostTransmission, quiet] at run
    cases run
    exact ⟨rfl, rfl⟩
  | state | alert | report | demand | config | query | stop | release | clearTrip | acknowledge | restart | lock =>
    cases run
    simp [State.completeAbsorption_of_dead dead]
  | lineHeldEntry =>
    simp only [exec, execLineHeldEntry, dead] at run
    split at run <;> cases run <;> exact ⟨rfl, rfl⟩
  | taggedPost =>
    simp only [exec, execTaggedPost, dead] at run
    split at run <;> cases run <;> exact ⟨rfl, rfl⟩
  | controlUpdateCompletion =>
    simp only [exec, execControlUpdateCompletion, dead] at run
    split at run <;> cases run <;> exact ⟨rfl, rfl⟩
  | conversionCompletion raw =>
    simp only [exec, execConversionCompletion, dead] at run
    split at run <;> cases run <;> exact ⟨rfl, rfl⟩
  | postArrival levels =>
    simp only [exec, execPostArrival, dead] at run
    cases run
    exact ⟨rfl, rfl⟩
  | listenIntervalEnd line =>
    simp only [exec, execListenIntervalEnd, heard] at run
    cases run
    exact ⟨rfl, rfl⟩
  | _ =>
    simp only [exec, execLineHeldEpisode, execLineHeldEnd, execAbsorption, execPostPeriodExpiry, execControlPeriodExpiry,
      execStartSymbol, dead] at run
    cases run
    exact ⟨rfl, rfl⟩

end

/-! ### Counters -/

/-- Counter `i` has not fallen below `n` and is a 16-bit count (R183). -/
def State.CountedFrom (n : Nat) (i : CounterId) (s : State) : Prop := n ≤ s.counters.get i ∧ s.counters.get i ≤ 65535

section
variable {n : Nat} {i : CounterId} {s t : State}

theorem Move.keeps_count (m : Move s t) (h : s.CountedFrom n i) : t.CountedFrom n i := by
  cases m with
  | other _ counters => simpa [State.CountedFrom, counters] using h
  | bump c =>
    obtain ⟨low, high⟩ := h
    by_cases same : c = i
    · subst same
      simp only [State.CountedFrom, State.bump_counters, Counters.get_bump_same]
      exact ⟨low.trans (le_countTo high), countTo_le _ _⟩
    · simpa [State.CountedFrom, Counters.get_bump_other _ same] using ⟨low, high⟩
  | _ => exact h

theorem Acts.keeps_count (h : Acts s t) (start : s.CountedFrom n i) : t.CountedFrom n i :=
  Acts.keeps (P := State.CountedFrom n i) Move.keeps_count
    (fun s => Moves.keeps (s := s.dropReady) Move.keeps_count s.pop_moves) (fun _ _ _ _ _ _ h => h) (fun _ _ h => h)
    h start

end

end Sys2Proof.Machine

open Sys2Proof Sys2Proof.Machine

/-- Settles O1: the passing of a bit-time is `passBitTime`, read field by field. -/
theorem stepRunsFrontCommand : Obligations.StepRunsFrontCommand := by
  refine ⟨fun _ _ _ => rfl, fun s empty => ?_⟩
  rw [step_of_empty empty]
  refine ⟨fun reset => by simp [State.passBitTime, reset], fun running => ?_⟩
  by_cases idle : s.bus.lineHeld = false ∧ s.bus.receiving = false ∧ s.driving = none
  · simp [State.passBitTime, running, State.idleFor, countTo, idle]
  · have busy : (s.bus.lineHeld || s.bus.receiving || s.driving.isSome) = true := by
      simpa [← Option.isSome_iff_ne_none, or_assoc, imp_iff_not_or] using idle
    simp [State.passBitTime, running, State.idleFor, countTo, busy, idle]

/-- Settles O2. -/
theorem everyCommandAnswersNext : Obligations.EveryCommandAnswersNext := fun c s => exec_answers s c

/-- Settles O3, by evaluation of the reset state. -/
theorem resetMeetsInvariants : Obligations.ResetMeetsInvariants := by
  refine ⟨?stack, ?queues, ?counters, ⟨?output, trivial⟩, ?latch, ?geometry, ?faults, ?winding, ?record, ?peers,
    ⟨?_, ?_, ?_, ?_, ?_, ?_, ?_, ?_, ?_, trivial, fun _ => rfl⟩, ⟨?quiet, trivial⟩⟩
  all_goals decide

/-- Settles O5: in RESET and ISOLATED only the commands of the reset line act on the station. -/
theorem isolationAndResetAreLeftOnlySo : Obligations.IsolationAndResetAreLeftOnlySo := by
  intro c s t run
  refine ⟨fun isolated left => ?_, fun reset left => ?_⟩
  · have dead : s.station.state.live = false := by rw [isolated]; rfl
    by_cases cold : c = .coldReset
    · subst cold
      cases run
      exact ⟨rfl, rfl⟩
    · obtain ⟨station, -⟩ := exec_of_dead dead run cold fun reset => by simp [isolated] at reset
      exact absurd (station ▸ isolated) left
  · have dead : s.station.state.live = false := by rw [reset]; rfl
    by_contra other
    have cold : c ≠ .coldReset := by
      rintro rfl
      cases run
      exact left rfl
    obtain ⟨station, -⟩ := exec_of_dead dead run cold fun _ straps eq => other ⟨straps, eq⟩
    exact left (station ▸ reset)

/-- Settles O6: every link of a chain of acts counts up, and an isolated station counts nothing. -/
theorem countersOnlyGrow : Obligations.CountersOnlyGrow := by
  intro c s t i run bound other
  have acts : Acts s t := (exec_acts run).resolve_right fun ⟨straps, eq, _⟩ => other straps eq
  obtain ⟨low, high⟩ := acts.keeps_count (n := s.counters.get i) (i := i) ⟨le_rfl, bound⟩
  refine ⟨low, high, fun isolated => ?_⟩
  have dead : s.station.state.live = false := by rw [isolated]; rfl
  by_cases cold : c = .coldReset
  · subst cold
    cases run
    simp [isolated]
  · exact (exec_of_dead dead run cold fun _ => other).2

end

section
/-! SUPPORT. Number, record and lock of a station (R41, R45): which commands leave them, and that a locked record stays
until the release of the reset line. -/

namespace Sys2Proof.Machine

/-- Number, record and lock of station control. -/
def Station.rest (x : Station) : Station :=
  { x with state := .reset, isolation := none, listenCounter := 0, selfCheckPassed := false }

theorem Station.rest_inj {x y : Station} : x.rest = y.rest ↔ x.number = y.number ∧ x.record = y.record ∧ x.locked = y.locked := by
  simp [Station.rest]

section
variable (s : State)

@[simp] theorem State.enterRun_station_rest : s.enterRun.station.rest = s.station.rest := rfl
@[simp] theorem State.trip_station_rest (c : TripCause) : (s.trip c).station.rest = s.station.rest := by
  unfold State.trip
  dsimp only
  split <;> simp [Station.rest]
@[simp] theorem State.receiveCause_station_rest (c : TripCause) :
    (s.receiveCause c).station.rest = s.station.rest := by
  unfold State.receiveCause
  dsimp only
  (repeat' split) <;> simp
@[simp] theorem State.enterReady_station_rest : s.enterReady.station.rest = s.station.rest := by
  unfold State.enterReady
  dsimp only
  split
  · exact (State.receiveCause_station_rest _ _).trans rfl
  · rfl
@[simp] theorem State.leaveListen_station_rest : s.leaveListen.station.rest = s.station.rest := by
  unfold State.leaveListen
  repeat' split
  · simp
  · rfl
  · rfl
@[simp] theorem State.countListen_station_rest : s.countListen.station.rest = s.station.rest := by
  unfold State.countListen
  split
  · exact (State.leaveListen_station_rest _).trans rfl
  · rfl
@[simp] theorem State.enterHeld_station_rest : s.enterHeld.station.rest = s.station.rest := by
  simp [State.enterHeld, Station.rest]
@[simp] theorem State.completionReport_station_rest (n : Snapshot) (u : UpdateResult) :
    (s.completionReport n u).station.rest = s.station.rest := by
  unfold State.completionReport
  (repeat' split) <;> simp
@[simp] theorem State.handOver_station_rest (c : Channel) (j : Judgement) (r : Int) :
    (s.handOver c j r).station.rest = s.station.rest := by
  unfold State.handOver
  (repeat' split) <;> simp
@[simp] theorem State.judgeGridOpen_station_rest : s.judgeGridOpen.station.rest = s.station.rest := by
  unfold State.judgeGridOpen
  dsimp only
  split <;> simp
@[simp] theorem State.isolate_station_rest (r : IsolationReason) : (s.isolate r).station.rest = s.station.rest := rfl
@[simp] theorem State.hearOwnNumber_station_rest : s.hearOwnNumber.station.rest = s.station.rest := by
  unfold State.hearOwnNumber
  dsimp only
  split <;> simp
@[simp] theorem State.warmValues_station_rest : s.warmValues.station.rest = s.station.rest := rfl
@[simp] theorem State.restartRaises_station : s.restartRaises.station = s.station := by
  have raises := foldl_keeps (fun t => t.station) (fun t c => t.raiseWith false .sensorFault (some c))
    fun t c => State.raiseWith_station t _ _ _
  unfold State.restartRaises
  dsimp only
  split <;> simp [raises]
@[simp] theorem State.warmRestart_station_rest (straps : Fin 8) :
    (s.warmRestart straps).station.rest = s.station.rest := by
  unfold State.warmRestart
  dsimp only
  split <;> simp
@[simp] theorem State.demandNoticeStation_station_rest (d : Direction) :
    (s.demandNoticeStation d).station.rest = s.station.rest := by
  unfold State.demandNoticeStation
  dsimp only
  split <;> simp
@[simp] theorem State.demandNoticeProtection_station_rest :
    s.demandNoticeProtection.station.rest = s.station.rest := by
  unfold State.demandNoticeProtection
  split <;> simp
@[simp] theorem State.judgeClearTrip_station_rest : s.judgeClearTrip.station.rest = s.station.rest := by
  unfold State.judgeClearTrip
  split <;> simp
@[simp] theorem State.judgeRestart_station_rest (straps : Fin 8) :
    (s.judgeRestart straps).station.rest = s.station.rest := by
  unfold State.judgeRestart
  split <;> simp
@[simp] theorem State.othersExpiry_station : s.othersExpiry.station = s.station := by
  unfold State.othersExpiry
  split <;> simp
@[simp] theorem State.expirePostPeriod_station_rest (line : Bool) :
    (s.expirePostPeriod line).station.rest = s.station.rest := by
  simp [State.expirePostPeriod]
@[simp] theorem State.completeUpdate_station_rest (n : Snapshot) :
    (s.completeUpdate n).station.rest = s.station.rest := by
  simp [State.completeUpdate]
@[simp] theorem State.completeDiscarded_station : s.completeDiscarded.station = s.station := by
  simp [State.completeDiscarded]
@[simp] theorem State.completeConversion_station_rest (c : Channel) (raw : Int) :
    (s.completeConversion c raw).station.rest = s.station.rest := by
  simp [State.completeConversion]
@[simp] theorem State.completeSuperframe_station_rest (running : Bool) :
    (s.completeSuperframe running).station.rest = s.station.rest := by
  simp [State.completeSuperframe]

theorem State.completeAbsorption_station_rest (about : Body → Bool) {route : Post → State → State}
    (routed : ∀ p t, t.station.rest = s.station.rest → (route p t).station.rest = s.station.rest) :
    (s.completeAbsorption about route).station.rest = s.station.rest := by
  have accepted (p : Post) := routed p (s.freeAbsorber.acceptPost p) rfl
  unfold State.completeAbsorption State.absorb State.afterAcceptance
  dsimp only
  repeat' split
  all_goals simp [accepted]

theorem routeOrder_station_rest {owner : Nat → State → State} {x : Station}
    (owned : ∀ a t, t.station.rest = x → (owner a t).station.rest = x) {p : Post} {t : State}
    (start : t.station.rest = x) : (routeOrder owner p t).station.rest = x := by
  unfold routeOrder
  repeat' split
  · exact owned _ _ start
  all_goals simpa using start

theorem routeDemand_station_rest (p : Post) : (routeDemand p s).station.rest = s.station.rest := by
  unfold routeDemand
  (repeat' split) <;> simp

theorem routeQuery_station_rest (p : Post) : (routeQuery p s).station.rest = s.station.rest := by
  unfold routeQuery
  (repeat' split) <;> simp

theorem routeConfig_station_rest (p : Post) (locked : s.station.locked = true) :
    (routeConfig p s).station.rest = s.station.rest := by
  unfold routeConfig
  (repeat' split) <;> simp [State.configItem_locked, locked]

theorem State.judgeLock_station_rest (locked : s.station.locked = true) :
    s.judgeLock.station.rest = s.station.rest := by
  unfold State.judgeLock
  repeat' split
  · simp
  · exact (State.enterReady_station_rest _).trans (by simp [Station.rest, locked])
  · simp

end

/-- A locked station keeps number, record and lock until the release of the reset line (R45). -/
theorem exec_station_rest {c : Instr} {s t : State} (run : exec c s = .next t) (locked : s.station.locked = true)
    (unreleased : ∀ straps, c ≠ .resetRelease straps) : t.station.rest = s.station.rest := by
  have still {u : State} (h : u.station.rest = s.station.rest) : u.station.locked = true :=
    (Station.rest_inj.1 h).2.2.trans locked
  cases c with
  | resetRelease straps => exact absurd rfl (unreleased straps)
  | coldReset =>
    cases run
    dsimp only
    split <;> simp [State.abandonOperations, Station.rest]
  | state | alert | report =>
    cases run
    exact s.completeAbsorption_station_rest _ fun _ _ h => h
  | demand =>
    cases run
    exact s.completeAbsorption_station_rest _ fun p t h => (routeDemand_station_rest t p).trans h
  | config =>
    cases run
    exact s.completeAbsorption_station_rest _ fun p t h => (routeConfig_station_rest t p (still h)).trans h
  | query =>
    cases run
    exact s.completeAbsorption_station_rest _ fun p t h => (routeQuery_station_rest t p).trans h
  | lock line =>
    cases run
    exact s.completeAbsorption_station_rest _ fun _ _ => routeOrder_station_rest fun _ t h =>
      ((t.showFaultLine line).judgeLock_station_rest (still h)).trans h
  | stop | release | clearTrip | acknowledge | restart =>
    cases run
    exact s.completeAbsorption_station_rest _ fun _ _ => routeOrder_station_rest fun _ t h => by simp [h]
  | selfCheckCompletion a b line =>
    simp only [exec, execSelfCheckCompletion] at run
    repeat' split at run
    all_goals obtain rfl := Host.Outcome.next.inj run
    · exact (State.leaveListen_station_rest _).trans rfl
    all_goals rfl
  | _ =>
    simp only [exec, execPostArrival, execLineHeldEpisode, execLineHeldEnd, execPostTransmission,
      execTransmissionCompletion, execCollision, execAbsorption, execLineHeldEntry, execTaggedPost, execPostPeriodExpiry,
      execListenIntervalEnd, execControlPeriodExpiry, execControlUpdateCompletion, execConversionCompletion,
      execSuperframeCompletion, execSpinUpCompletion, execStopLineAsserted, execStopLineInactive, execPowerStageFault,
      execStartSymbol] at run
    repeat' split at run
    all_goals obtain rfl := Host.Outcome.next.inj run
    all_goals simp

end Sys2Proof.Machine

open Sys2Proof Sys2Proof.Machine

/-- Settles O4. -/
theorem lockedRecordStays : Obligations.LockedRecordStays := fun c s t run locked unreleased => by
  obtain ⟨-, record, lock⟩ := Station.rest_inj.1 (exec_station_rest run locked unreleased)
  exact ⟨lock.trans locked, record⟩

end

section
/-! SUPPORT. The station's invariants (R20, R39, R45, R50, R82, R85, R174): what they read of a state (`State.core`), which
operations leave that alone, and what the changes of station state do to it. -/

namespace Sys2Proof.Machine

/-! ### The conversion in flight -/

section
variable (s : State)

@[simp] theorem State.setChannelValue_converting (c : Channel) (v : Int) :
    (s.setChannelValue c v).meas.converting = s.meas.converting := rfl
@[simp] theorem State.followWheel_converting : s.followWheel.meas.converting = s.meas.converting := by
  unfold State.followWheel
  split <;> simp
@[simp] theorem State.followTorque_converting : s.followTorque.meas.converting = s.meas.converting := by
  unfold State.followTorque
  split <;> simp
@[simp] theorem State.afterPop_converting (x : Context) : (s.afterPop x).meas.converting = s.meas.converting := by
  have returns := foldl_keeps (fun t => t.meas.converting) State.returnChannel fun _ _ => rfl
  unfold State.afterPop
  dsimp only
  (repeat' split) <;> simp [returns]
@[simp] theorem State.pop_converting : s.pop.meas.converting = s.meas.converting := by
  rw [State.pop, State.promotePending_meas]
  exact foldl_keeps (fun t => t.meas.converting) _ (fun t x => State.afterPop_converting t x) _ _
@[simp] theorem State.readyAndPop_converting (c : ProtClass) :
    (s.readyAndPop c).meas.converting = s.meas.converting := State.pop_converting _
@[simp] theorem State.protectionExpiry_converting : s.protectionExpiry.meas.converting = s.meas.converting :=
  State.pop_converting _
@[simp] theorem State.updateRecord_converting (c : Channel) (j : Judgement) (r : Int) :
    (s.updateRecord c j r).meas.converting = s.meas.converting := by
  unfold State.updateRecord
  dsimp only
  repeat' split
  all_goals simp [State.setChannel, State.markFaulted]
@[simp] theorem State.restartRaises_meas : s.restartRaises.meas = s.meas := by
  have raises := foldl_keeps (fun t => t.meas) (fun t c => t.raiseWith false .sensorFault (some c))
    fun t c => State.raiseWith_meas t _ _ _
  unfold State.restartRaises
  dsimp only
  split <;> simp [raises]

end

/-! ### What the invariants read -/

@[simp] theorem BusPort.rest_tx (b : BusPort) : b.rest.tx = b.tx := rfl
@[simp] theorem BusPort.rest_receiving (b : BusPort) : b.rest.receiving = b.receiving := rfl
@[simp] theorem BusPort.rest_loopback (b : BusPort) : b.rest.loopback = b.loopback := rfl
@[simp] theorem Protection.rest_firstCause (p : Protection) : p.rest.firstCause = p.firstCause := rfl
@[simp] theorem Protection.rest_causes (p : Protection) : p.rest.causes = p.causes := rfl

/-- The state with everything but what the station's invariants read put to its value of reset. -/
def State.core (s : State) : State :=
  { State.reset with
    station := s.station
    bus := { BusPort.cold with tx := s.bus.rest.tx, receiving := s.bus.rest.receiving, loopback := s.bus.rest.loopback }
    peers := { PeerView.cold with absorber := s.peers.absorber }
    meas := { Measurement.cold with converting := s.meas.converting }
    gov := { Governor.cold with output := s.gov.output, request := s.gov.request, update := s.gov.update }
    prot := { Protection.cold with firstCause := s.prot.rest.firstCause, causes := s.prot.rest.causes } }

/-- The invariants of station control, governor, latch and operations in flight. -/
structure State.Sound (s : State) : Prop where
  output : s.OutputInv
  record : s.RecordInv
  latch : s.LatchInv
  quiet : s.QuietInv

theorem State.sound_core {s : State} : s.core.Sound ↔ s.Sound :=
  ⟨fun ⟨a, b, c, d⟩ => ⟨a, b, c, d⟩, fun ⟨a, b, c, d⟩ => ⟨a, b, c, d⟩⟩

theorem State.Sound.of_core {s t : State} (h : s.Sound) (same : t.core = s.core) : t.Sound :=
  State.sound_core.1 (same ▸ State.sound_core.2 h)

section
variable (s : State)

@[simp] theorem State.withPending_core (q : List Instr) : (s.withPending q).core = s.core := rfl
@[simp] theorem State.bump_core (c : CounterId) : (s.bump c).core = s.core := rfl
@[simp] theorem State.refuseOrder_core : s.refuseOrder.core = s.core := rfl
@[simp] theorem State.showFaultLine_core (line : Bool) : (s.showFaultLine line).core = s.core := rfl
@[simp] theorem State.acceptPost_core (p : Post) : (s.acceptPost p).core = s.core := rfl
@[simp] theorem State.recomputeGeometry_core : s.recomputeGeometry.core = s.core := rfl
@[simp] theorem State.handHold_core (hold : Bool) : (s.handHold hold).core = s.core := rfl
@[simp] theorem State.answerQuery_core (page : Page) (i : Nat) : (s.answerQuery page i).core = s.core := rfl
@[simp] theorem State.agePeers_core : s.agePeers.core = s.core := rfl
@[simp] theorem State.reloadControl_core : s.reloadControl.core = s.core := rfl
@[simp] theorem State.refreshRef_core : s.refreshRef.core = s.core := rfl
@[simp] theorem State.stepThermal_core : s.stepThermal.core = s.core := rfl
@[simp] theorem State.actOnStage_core : s.actOnStage.core = s.core := rfl
@[simp] theorem State.beginSuperframe_core : s.beginSuperframe.core = s.core := rfl
@[simp] theorem State.afterPost_core (levels : List Bool) (whole : Bool) : (s.afterPost levels whole).core = s.core := rfl
@[simp] theorem State.alert_core (k : AlertKind) (args : List Nat) : (s.alert k args).core = s.core := by
  simp [State.core]
@[simp] theorem State.take_core (c : ProtClass) : (s.take c).core = s.core := by simp [State.core]
@[simp] theorem State.judge_core (c : ProtClass) (holds : Bool) : (s.judge c holds).core = s.core := by
  simp [State.core]
@[simp] theorem State.receiveStop_core : s.receiveStop.core = s.core := by simp [State.core]
@[simp] theorem State.readyAndPop_core (c : ProtClass) : (s.readyAndPop c).core = s.core := by simp [State.core]
@[simp] theorem State.protectionExpiry_core : s.protectionExpiry.core = s.core := by simp [State.core]
@[simp] theorem State.judgeDeferred_core : s.judgeDeferred.core = s.core := by simp [State.core]
@[simp] theorem State.coolWinding_core : s.coolWinding.core = s.core := by simp [State.core]
@[simp] theorem State.report31_core : s.report31.core = s.core := by simp [State.core]
@[simp] theorem State.duplicateHeard_core : s.duplicateHeard.core = s.core := by
  unfold State.duplicateHeard
  split
  · exact (State.alert_core _ _ _).trans rfl
  · rfl
@[simp] theorem State.buildStatePost_core : s.buildStatePost.core = s.core := by
  unfold State.buildStatePost State.offerState
  dsimp only
  (repeat' split) <;> rfl
@[simp] theorem State.countGrace_core : s.countGrace.core = s.core := by
  unfold State.countGrace
  split <;> rfl
@[simp] theorem State.updateRecord_core (c : Channel) (j : Judgement) (r : Int) :
    (s.updateRecord c j r).core = s.core := by simp [State.core]
@[simp] theorem State.countSpinUp_core (running : Bool) : (s.countSpinUp running).core = s.core := by simp [State.core]
@[simp] theorem State.joinRx_core (e : RxEntry) : (s.joinRx e).core = s.core := by
  unfold State.joinRx
  dsimp only
  (repeat' split) <;> rfl
@[simp] theorem State.idleFor_core (n : Nat) : (s.idleFor n).core = s.core := by simp [State.core]
@[simp] theorem State.showStopLine_core (level : Bool) : (s.showStopLine level).core = s.core := by
  unfold State.showStopLine
  dsimp only
  split <;> rfl
@[simp] theorem State.stopLineAsserted_core : s.stopLineAsserted.core = s.core := by
  simp [State.core, State.stopLineAsserted]
@[simp] theorem State.restartRaises_core : s.restartRaises.core = s.core := by
  have raises := foldl_keeps State.core (fun t c => t.raiseWith false .sensorFault (some c)) fun t c => by
    simp [State.core]
  unfold State.restartRaises
  dsimp only
  split
  · exact (State.take_core _ _).trans (raises _ _)
  · exact raises _ _
@[simp] theorem State.integrateWinding_core : s.integrateWinding.core = s.core := by simp [State.core]
@[simp] theorem State.judgeSlip_core (n : Snapshot) (u : UpdateResult) : (s.judgeSlip n u).core = s.core := by
  simp [State.core]
@[simp] theorem State.judgeShortfall_core (n : Snapshot) (u : UpdateResult) :
    (s.judgeShortfall n u).core = s.core := by
  unfold State.judgeShortfall
  (repeat' split) <;> rfl
@[simp] theorem State.followWheel_core : s.followWheel.core = s.core := by simp [State.core]
@[simp] theorem State.followTorque_core : s.followTorque.core = s.core := by simp [State.core]
theorem State.endUpdate_core : s.endUpdate.core = { s.core with gov := { s.core.gov with update := none } } := rfl
@[simp] theorem State.othersExpiry_core : s.othersExpiry.core = s.core := by
  unfold State.othersExpiry
  split <;> simp

end

/-! ### Changes of station state -/

section
variable {s : State}

/-- Outside TRIPPED and RESET there is neither latch nor cause (R174). -/
theorem State.Sound.free (h : s.Sound) (released : s.station.state ≠ .reset) (untripped : s.station.state ≠ .tripped) :
    s.prot.firstCause = none := by
  obtain ⟨latch, -⟩ := h.latch
  simpa [untripped] using latch released

/-- A station that has left RUN and holds no latch may enter any live state but TRIPPED, an unlocked one LISTEN and
COMMISSION alone. -/
theorem State.Sound.enter (h : s.Sound) (left : s.station.state ≠ .run)
    (free : s.prot.firstCause = none) {x : StationState} (entered : x.live = true) (untripped : x ≠ .tripped)
    (lock : s.station.locked = false → x = .listen ∨ x = .commission) :
    State.Sound { s with station := { s.station with state := x } } := by
  obtain ⟨⟨output, update⟩, ⟨inRange, -⟩, ⟨-, causes⟩, ⟨-, looping⟩⟩ := h
  refine ⟨⟨fun _ => output left, ?_⟩, ⟨inRange, fun unlocked => ?_⟩, ⟨fun _ => ?_, causes⟩, ⟨fun dead => ?_, looping⟩⟩
  · dsimp only
    split
    next u eq =>
      rw [eq] at update
      exact fun counts => absurd (update counts).1 left
    next => trivial
  · exact .inr ((lock unlocked).imp id .inl)
  · simp [untripped, free]
  · exact absurd dead (by simp [entered])

theorem State.trip_core (c : TripCause) : (s.trip c).core = { s.core with
    station := { s.station with state := .tripped }
    gov := { s.core.gov with
      output := if s.station.state = .run then 0 else s.gov.output
      request := if s.station.state = .run then 0 else s.gov.request
      update := s.gov.update.map fun u => { u with discarded := true } }
    prot := { s.core.prot with firstCause := some c, causes := [c] } } := by
  unfold State.trip
  dsimp only
  rw [State.alert_core]
  by_cases running : s.station.state = .run <;> simp [running, State.core, State.departRun]

theorem State.Sound.trip (h : s.Sound) (c : TripCause)
    (state : s.station.state = .ready ∨ s.station.state = .run ∨ s.station.state = .held) : (s.trip c).Sound := by
  obtain ⟨⟨output, -⟩, ⟨inRange, locked⟩, -, ⟨-, looping⟩⟩ := h
  rw [← State.sound_core, State.trip_core]
  refine ⟨⟨fun _ => ?_, ?_⟩, ⟨inRange, fun unlocked => ?_⟩, ⟨fun _ => ?_, rfl, List.nodup_singleton c⟩,
    ⟨nofun, looping⟩⟩
  · by_cases running : s.station.state = .run
    · simp [running]
    · simpa [running] using output running
  · cases s.gov.update <;> simp
  · have := locked unlocked
    rcases state with eq | eq | eq <;> simp [eq] at this
  · simp

theorem State.Sound.receiveCause (h : s.Sound) (c : TripCause) : (s.receiveCause c).Sound := by
  have counted : (s.bump c.counter).Sound := h.of_core (s.bump_core _)
  obtain ⟨state, eq⟩ | ⟨-, -, eq⟩ | ⟨tripped, fresh, eq⟩ | ⟨-, eq⟩ := s.receiveCause_cases c <;> rw [eq]
  · exact counted.trip c state
  · exact counted
  · obtain ⟨output, record, ⟨latch, head, nodup⟩, quiet⟩ := h
    have latched := (latch (by simp [tripped])).1 tripped
    refine ⟨output, record, ⟨latch, ?_, ?_⟩, quiet⟩
    · rw [← head, Option.isSome_iff_exists] at latched
      obtain ⟨first, first_eq⟩ := latched
      change (s.prot.causes ++ [c]).head? = s.prot.firstCause
      rw [List.head?_append, first_eq, Option.some_or, ← first_eq, head]
    · exact List.nodup_append.2 ⟨nodup, by simp, by simpa using fun a mem => (ne_of_mem_of_not_mem mem fresh)⟩
  · exact h

theorem State.Sound.enterReady (h : State.Sound { s with station := { s.station with state := .ready } }) :
    s.enterReady.Sound := by
  unfold State.enterReady
  dsimp only
  split
  · exact h.receiveCause _
  · exact h

theorem State.Sound.leaveListen (h : s.Sound) (listening : s.station.state = .listen) : s.leaveListen.Sound := by
  have left : s.station.state ≠ .run := by simp [listening]
  have free := h.free (by simp [listening]) (by simp [listening])
  unfold State.leaveListen
  split
  · split
    next locked => exact .enterReady (h.enter left free rfl (by decide) (by simp [locked]))
    next => exact h.enter left free rfl (by decide) fun _ => .inr rfl
  · exact h

theorem State.Sound.countListen (h : s.Sound) : s.countListen.Sound := by
  unfold State.countListen
  split
  next listening =>
    have counted : State.Sound { s with station := { s.station with listenCounter := countTo 16 s.station.listenCounter } } :=
      ⟨h.output, h.record, h.latch, h.quiet⟩
    exact counted.leaveListen listening
  next => exact h

theorem State.Sound.locked (h : s.Sound)
    (state : s.station.state = .ready ∨ s.station.state = .run ∨ s.station.state = .held ∨ s.station.state = .tripped) :
    s.station.locked = true := by
  by_contra unlocked
  have := h.record.2 (by simpa using unlocked)
  rcases state with eq | eq | eq | eq <;> simp [eq] at this

theorem State.Sound.enterRun (h : s.Sound) (state : s.station.state = .ready ∨ s.station.state = .held) :
    s.enterRun.Sound := by
  have left : s.station.state ≠ .run := by rcases state with eq | eq <;> simp [eq]
  have free := h.free (by rcases state with eq | eq <;> simp [eq]) (by rcases state with eq | eq <;> simp [eq])
  have locked := h.locked (state.imp id fun held => .inr (.inl held))
  exact (h.enter left free (x := .run) rfl (by decide) (by simp [locked])).of_core rfl

theorem State.Sound.isolate (h : s.Sound) (free : s.prot.firstCause = none) (r : IsolationReason) :
    (s.isolate r).Sound := by
  obtain ⟨-, ⟨inRange, -⟩, ⟨-, causes⟩, -⟩ := h
  exact ⟨⟨fun _ => ⟨rfl, rfl⟩, trivial⟩, ⟨inRange, fun _ => .inr (.inr (.inr rfl))⟩,
    ⟨fun _ => by simp [State.isolate, free], causes⟩, ⟨fun _ => ⟨rfl, rfl, rfl, rfl, rfl, rfl⟩, trivial⟩⟩

theorem State.enterHeld_core : s.enterHeld.core = { s.core with
    station := { s.station with state := .held }
    gov := { s.core.gov with output := 0, request := 0 } } := by
  unfold State.enterHeld
  dsimp only
  rw [State.alert_core]
  simp [State.core, State.departRun]

theorem State.Sound.enterHeld (h : s.Sound) (running : s.station.state = .run) (done : s.gov.update = none) :
    s.enterHeld.Sound := by
  have free := h.free (by simp [running]) (by simp [running])
  have locked := h.locked (.inr (.inl running))
  obtain ⟨-, ⟨inRange, -⟩, ⟨-, causes⟩, ⟨-, looping⟩⟩ := h
  rw [← State.sound_core, State.enterHeld_core]
  exact ⟨⟨fun _ => ⟨rfl, rfl⟩, by simp [State.core, done]⟩, ⟨inRange, by simp [locked]⟩,
    ⟨by simp [State.core, free], causes⟩, ⟨nofun, looping⟩⟩

end

end Sys2Proof.Machine
end

section
/-! SUPPORT. The station's invariants are kept by every command. -/

namespace Sys2Proof.Machine

section
variable {s t : State}

/-! ### Live stations -/

/-- In a live station, operations in flight may begin and end freely as long as no test post is looped during a
reception. -/
theorem State.Sound.of_live (h : s.Sound) (live : s.station.state.live = true) (station : t.station = s.station)
    (gov : t.gov = s.gov) (firstCause : t.prot.firstCause = s.prot.firstCause) (causes : t.prot.causes = s.prot.causes)
    (apart : ∀ l ∈ t.bus.loopback, l.looping = true → t.bus.receiving = false) : t.Sound := by
  obtain ⟨output, record, latch, -⟩ := h
  refine ⟨?_, by simpa only [State.RecordInv, station] using record,
    by simpa only [State.LatchInv, station, firstCause, causes] using latch, fun dead => ?_, ?_⟩
  · simpa only [State.OutputInv, Update.Current, station, gov] using output
  · exact absurd live (by simp [← station, dead])
  · split
    next l eq => exact apart l eq
    next => trivial

theorem State.Sound.apart (h : s.Sound) : ∀ l ∈ s.bus.loopback, l.looping = true → s.bus.receiving = false := by
  obtain ⟨-, -, -, -, looping⟩ := h
  intro l eq
  simpa only [Option.mem_def.1 eq] using looping

theorem State.endReception_apart : ∀ l ∈ s.endReception.bus.loopback,
    l.looping = true → s.endReception.bus.receiving = false := fun _ _ _ => rfl

theorem State.Sound.endReception (h : s.Sound) (live : s.station.state.live = true) : s.endReception.Sound :=
  h.of_live live rfl rfl rfl rfl State.endReception_apart

theorem State.Sound.startSelfCheck (h : s.Sound) (live : s.station.state.live = true) : s.startSelfCheck.Sound :=
  h.of_live live rfl rfl rfl rfl fun l eq => by
    obtain rfl : _ = l := Option.some.inj eq
    exact fun idle => Bool.not_eq_true' _ ▸ idle

theorem State.Sound.freeAbsorber (h : s.Sound) (live : s.station.state.live = true) : s.freeAbsorber.Sound :=
  h.of_live live rfl rfl rfl rfl h.apart

/-! ### Absorption -/


theorem State.Sound.hearOwnNumber (h : s.Sound) : s.hearOwnNumber.Sound := by
  unfold State.hearOwnNumber
  dsimp only
  split
  next listening =>
    exact State.Sound.isolate (h.of_core (s.bump_core _)) (h.free (by simp [listening]) (by simp [listening])) _
  next => exact h.of_core rfl

theorem State.Sound.completeAbsorption (h : s.Sound) (about : Body → Bool) {route : Post → State → State}
    (routed : ∀ p (t : State), t.Sound → t.station = s.station → (route p t).Sound) :
    (s.completeAbsorption about route).Sound := by
  unfold State.completeAbsorption
  split
  next p _ =>
    split
    next live =>
      have free := h.freeAbsorber live.1
      unfold State.absorb
      dsimp only
      repeat' split
      · exact free.hearOwnNumber
      · exact free.of_core (State.bump_core _ _)
      · refine (routed p _ (free.of_core (State.acceptPost_core _ p)) rfl).of_core ?_
        unfold State.afterAcceptance
        dsimp only
        split <;> simp
    next => exact h
  next => exact h

theorem State.Sound.demandNoticeStation (h : s.Sound) (d : Direction) : (s.demandNoticeStation d).Sound := by
  unfold State.demandNoticeStation
  dsimp only
  split
  next start => exact (h.enterRun (.inl start.1)).of_core rfl
  next => exact h

theorem State.Sound.demandNoticeProtection (h : s.Sound) : s.demandNoticeProtection.Sound := by
  unfold State.demandNoticeProtection
  split
  next resume => exact (h.enterRun (.inr resume.1)).of_core (State.alert_core _ _ _)
  next => exact h

theorem State.Sound.routeDemand (h : s.Sound) (p : Post) : (routeDemand p s).Sound := by
  unfold Machine.routeDemand
  repeat' split
  · exact ((h.of_core (s.handHold_core _)).demandNoticeStation _).demandNoticeProtection
  all_goals exact h

theorem itemRange_setItem {r : CommRecord} {n lo hi v : Nat} (range : itemRange n = some (lo, hi)) (low : lo ≤ v)
    (high : v ≤ hi) (h : r.InRange) : (r.setItem v n).InRange := by
  unfold CommRecord.InRange at h
  unfold itemRange at range
  split at range <;> cases range <;> simp [CommRecord.InRange, CommRecord.setItem, low, high, h]

theorem clampNat_bounds {lo hi : Nat} (ordered : lo ≤ hi) (v : Nat) : lo ≤ clampNat lo hi v ∧ clampNat lo hi v ≤ hi := by
  unfold clampNat
  omega

theorem State.Sound.configItem (h : s.Sound) (item value : Nat) : (s.configItem item value).Sound := by
  unfold State.configItem
  repeat' split
  · exact h.of_core (s.bump_core _)
  · exact h.of_core (s.bump_core _)
  next lo hi range =>
    obtain ⟨low, high⟩ := clampNat_bounds (itemRange_ordered range) value
    obtain ⟨inRange, locked⟩ := h.record
    have stored : State.Sound { s with station := { s.station with
        record := s.station.record.setItem (clampNat lo hi value) item } } :=
      ⟨h.output, ⟨itemRange_setItem range low high inRange, locked⟩, h.latch, h.quiet⟩
    dsimp only
    split
    · exact stored
    · exact stored.of_core (State.bump_core _ _)

theorem State.Sound.routeConfig (h : s.Sound) (p : Post) : (routeConfig p s).Sound := by
  unfold Machine.routeConfig
  repeat' split
  · exact h.configItem _ _
  all_goals exact h

theorem State.Sound.routeQuery (h : s.Sound) (p : Post) : (routeQuery p s).Sound := by
  unfold Machine.routeQuery
  repeat' split
  · exact h.of_core (s.answerQuery_core _ _)
  all_goals exact h

/-! ### Orders -/

theorem State.Sound.routeOrder (h : s.Sound) {owner : Nat → State → State}
    (owned : ∀ a (t : State), t.Sound → (owner a t).Sound) (p : Post) : (routeOrder owner p s).Sound := by
  unfold Machine.routeOrder
  repeat' split
  · exact owned _ _ h
  · exact h.of_core s.refuseOrder_core
  all_goals exact h

theorem State.Sound.judgeRelease (h : s.Sound) : s.judgeRelease.Sound := by
  unfold State.judgeRelease
  split <;> exact h.of_core (by simp)

theorem State.Sound.judgeAcknowledge (h : s.Sound) (a : Nat) : (s.judgeAcknowledge a).Sound := by
  unfold State.judgeAcknowledge
  split <;> exact h.of_core (by simp)

theorem State.Sound.judgeClearTrip (h : s.Sound) : s.judgeClearTrip.Sound := by
  unfold State.judgeClearTrip
  split
  next clear =>
    obtain ⟨tripped, -⟩ := clear
    have locked := h.locked (.inr (.inr (.inr tripped)))
    obtain ⟨⟨output, update⟩, ⟨inRange, -⟩, -, ⟨-, looping⟩⟩ := h
    refine State.Sound.enterReady ⟨⟨fun _ => output (by simp [tripped]), ?_⟩, ⟨inRange, by simp [locked]⟩,
      ⟨by simp, rfl, List.nodup_nil⟩, ⟨nofun, looping⟩⟩
    dsimp only
    split
    next u eq =>
      rw [eq] at update
      exact fun counts => absurd (update counts).1 (by simp [tripped])
    next => trivial
  next => exact h.of_core s.refuseOrder_core

theorem State.Sound.judgeLock (h : s.Sound) : s.judgeLock.Sound := by
  unfold State.judgeLock
  split
  next commission =>
    split
    · exact h.of_core (State.alert_core _ _ _)
    · have locked : State.Sound { s with station := { s.station with locked := true } } :=
        ⟨h.output, ⟨h.record.1, nofun⟩, h.latch, h.quiet⟩
      exact .enterReady (locked.enter (by simp [commission]) (h.free (by simp [commission]) (by simp [commission])) rfl
        (by decide) nofun)
  next => exact h.of_core s.refuseOrder_core

/-- A warm restart finds the station out of RUN, so that an update in flight is one to be discarded (R52, R85). -/
theorem State.Sound.warmValues (h : s.Sound) (left : s.station.state ≠ .run) : s.warmValues.Sound := by
  obtain ⟨⟨-, update⟩, ⟨inRange, -⟩, -, -⟩ := h
  refine ⟨⟨fun _ => ⟨rfl, rfl⟩, ?_⟩, ⟨inRange, fun _ => .inr (.inl rfl)⟩, ⟨fun _ => ⟨nofun, nofun⟩, rfl, List.nodup_nil⟩,
    ⟨nofun, trivial⟩⟩
  dsimp only [State.warmValues]
  split
  next u eq =>
    rw [eq] at update
    exact fun counts => absurd (update counts).1 left
  next => trivial

theorem State.Sound.warmRestart (h : s.Sound) (left : s.station.state ≠ .run) (straps : Fin 8) :
    (s.warmRestart straps).Sound := by
  have warm := h.warmValues left
  unfold State.warmRestart
  dsimp only
  split
  · refine State.Sound.of_core (State.Sound.startSelfCheck ?_ rfl) (State.restartRaises_core _)
    exact warm.of_core rfl
  · exact State.Sound.isolate (s := { s.warmValues.recomputeGeometry with
      pins := { s.warmValues.recomputeGeometry.pins with straps := straps } }) (warm.of_core rfl) rfl _

theorem State.Sound.judgeRestart (h : s.Sound) (straps : Fin 8) : (s.judgeRestart straps).Sound := by
  unfold State.judgeRestart
  split
  next taken =>
    refine h.warmRestart (fun running => ?_) straps
    simp [State.restartTaken, running] at taken
  next => exact h.of_core s.refuseOrder_core

/-! ### Timers, conversions, superframes -/

theorem State.Sound.expirePostPeriod (h : s.Sound) (line : Bool) : (s.expirePostPeriod line).Sound :=
  State.Sound.countListen (h.of_core (by simp))

theorem State.Sound.governorExpiry (h : s.Sound) : s.governorExpiry.Sound := by
  unfold State.governorExpiry
  split
  next running =>
    obtain ⟨-, record, latch, ⟨-, looping⟩⟩ := h
    exact ⟨⟨fun left => absurd running left, fun _ => ⟨running, rfl⟩⟩, record, latch,
      ⟨fun dead => by simp [running, StationState.live] at dead, looping⟩⟩
  next => exact h.of_core s.refreshRef_core

theorem State.Sound.endUpdate (h : s.Sound) : s.endUpdate.Sound := by
  obtain ⟨⟨output, -⟩, record, latch, ⟨dead, looping⟩⟩ := h
  exact ⟨⟨output, trivial⟩, record, latch, ⟨fun eq => by simp_all [State.endUpdate, State.driving], looping⟩⟩

theorem State.Sound.completeUpdate (h : s.Sound) (running : s.station.state = .run) (n : Snapshot) :
    (s.completeUpdate n).Sound := by
  obtain ⟨-, record, latch, ⟨-, looping⟩⟩ := h
  unfold State.completeUpdate
  dsimp only
  generalize u_eq : runStages s.station.record n = u
  set a := State.endUpdate _ with a_eq
  have station : a.station = s.station := by simp [a_eq]
  have done : a.gov.update = none := rfl
  have sound : a.Sound := by
    rw [← State.sound_core]
    have core : a.core = { s.core with gov := { s.core.gov with
        output := u.output, request := u.request, update := none } } := by
      rw [a_eq, State.endUpdate_core]
      simp only [State.judgeShortfall_core, State.judgeSlip_core, State.integrateWinding_core, State.followTorque_core,
        State.followWheel_core]
      rfl
    rw [core]
    exact ⟨⟨fun left => absurd running left, trivial⟩, record, latch,
      ⟨fun dead => by simp [State.core, running, StationState.live] at dead, looping⟩⟩
  have judged : a.judgeDeferred.Sound := sound.of_core a.judgeDeferred_core
  unfold State.completionReport
  repeat' split
  · exact judged.enterHeld (by simp [station, running]) (by simp [done])
  · exact judged.of_core rfl
  · exact judged

theorem State.receiveCause_live (c : TripCause) (live : s.station.state.live = true) :
    (s.receiveCause c).station.state.live = true := by
  obtain ⟨state, eq⟩ | ⟨-, -, eq⟩ | ⟨-, -, eq⟩ | ⟨-, eq⟩ := s.receiveCause_cases c <;> rw [eq]
  · simp [State.trip, StationState.live]
  all_goals exact live

theorem State.handOver_live (c : Channel) (j : Judgement) (r : Int) (live : s.station.state.live = true) :
    (s.handOver c j r).station.state.live = true := by
  unfold State.handOver
  (repeat' split) <;> simp [live, State.receiveCause_live]

theorem State.Sound.handOver (h : s.Sound) (c : Channel) (j : Judgement) (r : Int) : (s.handOver c j r).Sound := by
  unfold State.handOver
  repeat' split
  · exact h.receiveCause _
  · exact h
  · exact h.of_core (s.judge_core _ _)
  · exact h.of_core rfl
  · exact h
  · exact h.of_core rfl
  all_goals exact h

theorem State.Sound.completeConversion (h : s.Sound) (live : s.station.state.live = true) (c : Channel) (raw : Int) :
    (s.completeConversion c raw).Sound := by
  have handed (j : Judgement) (r : Int) : ((s.updateRecord c j r).handOver c j r).Sound :=
    State.Sound.handOver (h.of_core (s.updateRecord_core c j r)) c j r
  exact (handed _ _).of_live (State.handOver_live _ _ _ (by simpa using live)) rfl rfl rfl rfl (handed _ _).apart

theorem State.Sound.judgeGridOpen (h : s.Sound) : s.judgeGridOpen.Sound := by
  unfold State.judgeGridOpen
  dsimp only
  split
  · exact (State.Sound.of_core (t := { s with grid := { s.grid with openCounter := 0 } }) h rfl).receiveCause _
  · exact h.of_core rfl

theorem State.Sound.completeSuperframe (h : s.Sound) (running : Bool) : (s.completeSuperframe running).Sound :=
  State.Sound.of_core (State.Sound.judgeGridOpen (h.of_core (t := s.stepThermal.judge .gridHot s.stepThermal.gridHot)
    ((State.judge_core _ _ _).trans s.stepThermal_core))) (by simp [State.completeSuperframe])

theorem State.Sound.passBitTime (h : s.Sound) : s.passBitTime.Sound := by
  unfold State.passBitTime
  split
  · exact h
  · cases live : s.station.state.live with
    | true =>
      refine h.of_live live (by simp) (by simp) (by simp) (by simp) fun l mem looping => ?_
      obtain ⟨k, eq, rfl⟩ := Option.map_eq_some_iff.1 (Option.mem_def.1 mem)
      refine (s.idleFor_receiving 1).trans (h.apart k (by simpa using eq) ?_)
      split at looping <;> simpa using looping
    | false =>
      obtain ⟨-, -, -, none, -, -⟩ := h.quiet.1 live
      exact h.of_core (by simp [State.core, none])

/-! ### The reset line -/

theorem State.Sound.released (s : State) (straps : Fin 8) : (s.released straps).Sound :=
  have default : CommRecord.default.InRange := by decide
  ⟨⟨fun _ => ⟨rfl, rfl⟩, trivial⟩, ⟨default, fun _ => .inr (.inl rfl)⟩, ⟨fun _ => ⟨nofun, nofun⟩, rfl, List.nodup_nil⟩,
    ⟨nofun, trivial⟩⟩

theorem State.Sound.coldReset (h : s.Sound) (run : execColdReset s = .next t) : t.Sound := by
  obtain ⟨⟨output, -⟩, ⟨inRange, -⟩, ⟨-, causes⟩, -⟩ := h
  obtain rfl := Host.Outcome.next.inj run
  have driving (x : Option TxRegister) : (x.map fun t => { t with attempt := none }).bind TxRegister.attempt = none := by
    cases x <;> rfl
  have reset (u : State) (off : u.gov.output = 0 ∧ u.gov.request = 0) (record : u.station.record.InRange)
      (causes : u.prot.causes.head? = u.prot.firstCause ∧ u.prot.causes.Nodup) :
      State.Sound { u.abandonOperations with
        pins := { u.abandonOperations.pins with resetLine := true }
        station := { u.abandonOperations.station with state := .reset } } :=
    ⟨⟨fun _ => off, trivial⟩, ⟨record, fun _ => .inl rfl⟩, ⟨fun released => absurd rfl released, causes⟩,
      ⟨fun _ => ⟨rfl, rfl, rfl, rfl, rfl, driving _⟩, trivial⟩⟩
  dsimp only
  split
  · exact reset _ (by simp [State.departRun]) (by simpa using inRange) (by simpa [State.departRun] using causes)
  next left => exact reset _ (output left) inRange causes

theorem State.Sound.resetRelease {straps : Fin 8} (h : s.Sound) (run : execResetRelease straps s = .next t) : t.Sound := by
  have listen := State.Sound.released s straps
  unfold execResetRelease at run
  dsimp only at run
  split at run
  · split at run <;> obtain rfl := Host.Outcome.next.inj run
    · refine (listen.startSelfCheck rfl).of_core ?_
      split <;> simp
    · exact listen.isolate rfl _
  · obtain rfl := Host.Outcome.next.inj run
    exact h

/-! ### Every command -/

theorem exec_sound {c : Instr} (h : s.Sound) (run : exec c s = .next t) : t.Sound := by
  cases c with
  | coldReset => exact h.coldReset run
  | resetRelease straps => exact h.resetRelease run
  | selfCheckCompletion a b line =>
    simp only [exec, execSelfCheckCompletion] at run
    repeat' split at run
    all_goals obtain rfl := Host.Outcome.next.inj run
    next l _ listening _ =>
      have live : s.station.state.live = true := by rw [listening.1]; rfl
      have passed : State.Sound { s with
          bus := { s.bus with loopback := none }, station := { s.station with selfCheckPassed := true } } :=
        State.Sound.of_live (s := { s with station := { s.station with selfCheckPassed := true } })
          ⟨h.output, h.record, h.latch, h.quiet⟩ live rfl rfl rfl rfl nofun
      exact State.Sound.leaveListen (passed.of_core rfl) listening.1
    next l _ listening _ => exact h.isolate (h.free (by simp [listening]) (by simp [listening])) _
    all_goals exact h
  | state | alert | report =>
    cases run
    exact h.completeAbsorption _ fun _ _ h _ => h
  | demand =>
    cases run
    exact h.completeAbsorption _ fun p _ h _ => h.routeDemand p
  | config =>
    cases run
    exact h.completeAbsorption _ fun p _ h _ => h.routeConfig p
  | query =>
    cases run
    exact h.completeAbsorption _ fun p _ h _ => h.routeQuery p
  | stop =>
    cases run
    exact h.completeAbsorption _ fun p _ h _ => h.routeOrder (fun _ t h => h.of_core t.receiveStop_core) p
  | release =>
    cases run
    exact h.completeAbsorption _ fun p _ h _ => h.routeOrder (fun _ _ h => h.judgeRelease) p
  | clearTrip line =>
    cases run
    exact h.completeAbsorption _ fun p _ h _ =>
      h.routeOrder (fun _ t h => State.Sound.judgeClearTrip (h.of_core (t.showFaultLine_core line))) p
  | acknowledge =>
    cases run
    exact h.completeAbsorption _ fun p _ h _ => h.routeOrder (fun a _ h => h.judgeAcknowledge a) p
  | restart straps =>
    cases run
    exact h.completeAbsorption _ fun p _ h _ => h.routeOrder (fun _ _ h => h.judgeRestart straps) p
  | lock line =>
    cases run
    exact h.completeAbsorption _ fun p _ h _ =>
      h.routeOrder (fun _ t h => State.Sound.judgeLock (h.of_core (t.showFaultLine_core line))) p
  | postArrival levels =>
    simp only [exec, execPostArrival] at run
    repeat' split at run
    all_goals obtain rfl := Host.Outcome.next.inj run
    next arriving _ _ _ => exact (h.endReception arriving.1).of_core (by simp)
    all_goals exact h
  | lineHeldEpisode =>
    simp only [exec, execLineHeldEpisode] at run
    split at run <;> obtain rfl := Host.Outcome.next.inj run
    · exact h.of_core (by rw [State.joinRx_core]; rfl)
    · exact h
  | lineHeldEnd =>
    simp only [exec, execLineHeldEnd] at run
    split at run <;> obtain rfl := Host.Outcome.next.inj run <;> exact h.of_core rfl
  | postTransmission waited =>
    simp only [exec, execPostTransmission] at run
    have live (posts : s.station.state.posts = true) : s.station.state.live = true := by
      revert posts
      cases s.station.state <;> decide
    have begun (posts : s.station.state.posts = true) (b : BusPort) (body : Body) (seq : Nat)
        (loopback : b.loopback = s.bus.loopback) (receiving : b.receiving = s.bus.receiving) :
        (State.beginAttempt { s.idleFor waited with bus := b } body seq).Sound :=
      h.of_live (live posts) (by simp) (by simp) (by simp) (by simp)
        (by simpa [State.beginAttempt, loopback, receiving] using h.apart)
    split at run
    next idle =>
      repeat' split at run
      all_goals obtain rfl := Host.Outcome.next.inj run
      · exact begun idle.1 (s.idleFor waited).bus _ _ (by simp) (by simp)
      · exact h.of_core (s.idleFor_core waited)
      · refine begun idle.1 _ _ _ ?_ ?_ <;> unfold BusPort.takeCandidate <;> repeat' split
        all_goals simp
      · exact h.of_core (s.idleFor_core waited)
      · exact h.of_core (s.idleFor_core waited)
    next =>
      obtain rfl := Host.Outcome.next.inj run
      exact h
  | transmissionCompletion =>
    simp only [exec, execTransmissionCompletion] at run
    repeat' split at run
    all_goals obtain rfl := Host.Outcome.next.inj run
    next live => exact h.of_live live rfl rfl rfl rfl fun _ _ _ => rfl
    all_goals exact h
  | collision =>
    simp only [exec, execCollision] at run
    repeat' split at run
    all_goals obtain rfl := Host.Outcome.next.inj run
    next collided _ => exact h.of_live collided.1 rfl rfl rfl rfl h.apart
    next collided _ _ => exact h.of_live collided.1 rfl rfl rfl rfl h.apart
    next collided _ _ => exact h.of_live collided.1 rfl rfl rfl rfl h.apart
    all_goals exact h
  | absorption =>
    simp only [exec, execAbsorption] at run
    repeat' split at run
    all_goals obtain rfl := Host.Outcome.next.inj run
    next live _ _ _ _ _ _ => exact h.of_live live rfl rfl rfl rfl h.apart
    all_goals exact h
  | lineHeldEntry =>
    simp only [exec, execLineHeldEntry] at run
    repeat' split at run
    all_goals obtain rfl := Host.Outcome.next.inj run
    next live => exact h.freeAbsorber live
    all_goals exact h
  | taggedPost =>
    simp only [exec, execTaggedPost] at run
    repeat' split at run
    all_goals obtain rfl := Host.Outcome.next.inj run
    next live => exact (h.freeAbsorber live).of_core rfl
    · exact h
    next live => exact (h.freeAbsorber live).of_core rfl
    all_goals exact h
  | postPeriodExpiry line =>
    simp only [exec, execPostPeriodExpiry] at run
    split at run <;> obtain rfl := Host.Outcome.next.inj run
    · exact h.expirePostPeriod line
    · exact h
  | listenIntervalEnd line =>
    simp only [exec, execListenIntervalEnd] at run
    split at run <;> obtain rfl := Host.Outcome.next.inj run
    · exact h.expirePostPeriod line
    · exact h
  | controlPeriodExpiry first =>
    simp only [exec, execControlPeriodExpiry] at run
    split at run <;> obtain rfl := Host.Outcome.next.inj run
    · split
      · exact (State.Sound.governorExpiry (h.of_core s.reloadControl_core)).of_core (State.othersExpiry_core _)
      · exact State.Sound.governorExpiry (h.of_core (by simp))
    · exact h
  | controlUpdateCompletion =>
    simp only [exec, execControlUpdateCompletion] at run
    repeat' split at run
    all_goals obtain rfl := Host.Outcome.next.inj run
    · exact State.Sound.of_core (State.Sound.endUpdate (h.of_core s.coolWinding_core)) (State.judgeDeferred_core _)
    next u flying _ counts =>
      obtain ⟨-, current⟩ := h.output
      rw [flying] at current
      exact h.completeUpdate (current (by simpa using counts)).1 _
    all_goals exact h
  | conversionCompletion raw =>
    simp only [exec, execConversionCompletion] at run
    repeat' split at run
    all_goals obtain rfl := Host.Outcome.next.inj run
    next live => exact h.completeConversion live _ _
    all_goals exact h
  | superframeCompletion running =>
    simp only [exec, execSuperframeCompletion] at run
    split at run <;> obtain rfl := Host.Outcome.next.inj run
    · exact h
    · exact h.completeSuperframe running
  | spinUpCompletion running =>
    simp only [exec, execSpinUpCompletion] at run
    split at run <;> obtain rfl := Host.Outcome.next.inj run
    · exact h.completeSuperframe running
    · exact h
  | stopLineAsserted =>
    simp only [exec, execStopLineAsserted] at run
    split at run <;> obtain rfl := Host.Outcome.next.inj run
    · exact h
    · refine h.of_core ?_
      split <;> simp
  | stopLineInactive =>
    cases run
    exact h.of_core (s.showStopLine_core false)
  | powerStageFault =>
    cases run
    exact State.Sound.receiveCause (h.of_core (s.showFaultLine_core true)) _
  | startSymbol r =>
    simp only [exec, execStartSymbol] at run
    repeat' split at run
    all_goals obtain rfl := Host.Outcome.next.inj run
    next open_ _ =>
      refine h.of_live open_.1 (by simp) (by simp) (by simp) (by simp) fun l mem looping => ?_
      obtain ⟨k, -, rfl⟩ := Option.map_eq_some_iff.1 (Option.mem_def.1 mem)
      exact absurd looping Bool.false_ne_true
    · exact h.of_core ((s.idleFor_core r.waited).symm ▸ rfl)
    · exact h

end

end Sys2Proof.Machine

open Sys2Proof Sys2Proof.Machine

/-- Settles O8. -/
theorem stepKeepsStation : Obligations.StepKeepsStation := by
  rintro s t ⟨output, record, latch, quiet⟩ run
  have h : s.Sound := ⟨output, record, latch, quiet⟩
  have sound : t.Sound := by
    cases queue : s.pending with
    | nil =>
      rw [step_of_empty queue] at run
      obtain rfl := Host.Outcome.next.inj run
      exact h.passBitTime
    | cons c rest =>
      rw [step_of_pending queue] at run
      exact exec_sound (h.of_core (s.withPending_core rest)) run
  exact ⟨sound.output, sound.record, sound.latch, sound.quiet⟩

end

section
/-! SUPPORT. Peer entries and geometry record (R22, R30, R67): what their invariants read of a state (`State.view`), which
commands leave that alone, and what the others do to it. -/

namespace Sys2Proof.Machine

/-- Geometry record, peer entries, and the station's number, record and lock. -/
def State.view (s : State) : Geometry × Peers × Station := (s.geo, s.peers.entries, s.station.rest)

theorem State.view_inj {s t : State} :
    t.view = s.view ↔ t.geo = s.geo ∧ t.peers.entries = s.peers.entries ∧ t.station.rest = s.station.rest := by
  simp [State.view]

section
variable (s : State)

/-! ### What leaves the view alone -/

@[simp] theorem State.freeAbsorber_view : s.freeAbsorber.view = s.view := rfl
@[simp] theorem State.bump_view (c : CounterId) : (s.bump c).view = s.view := rfl
@[simp] theorem State.refuseOrder_view : s.refuseOrder.view = s.view := rfl
@[simp] theorem State.isolate_view (r : IsolationReason) : (s.isolate r).view = s.view := rfl
@[simp] theorem State.withPending_view (q : List Instr) : (s.withPending q).view = s.view := rfl
@[simp] theorem State.showFaultLine_view (line : Bool) : (s.showFaultLine line).view = s.view := rfl
@[simp] theorem State.startSelfCheck_view : s.startSelfCheck.view = s.view := rfl
@[simp] theorem State.endUpdate_view : s.endUpdate.view = s.view := rfl
@[simp] theorem State.reloadControl_view : s.reloadControl.view = s.view := rfl
@[simp] theorem State.stepThermal_view : s.stepThermal.view = s.view := rfl
@[simp] theorem State.actOnStage_view : s.actOnStage.view = s.view := rfl
@[simp] theorem State.beginSuperframe_view : s.beginSuperframe.view = s.view := rfl
@[simp] theorem State.hearOwnNumber_view : s.hearOwnNumber.view = s.view := by
  unfold State.hearOwnNumber
  dsimp only
  split <;> rfl
@[simp] theorem State.duplicateHeard_entries : s.duplicateHeard.peers.entries = s.peers.entries := by
  unfold State.duplicateHeard
  split <;> simp
@[simp] theorem State.duplicateHeard_view : s.duplicateHeard.view = s.view := by
  unfold State.duplicateHeard
  split <;> simp [State.view]
@[simp] theorem State.countListen_view : s.countListen.view = s.view := by simp [State.view]
@[simp] theorem State.leaveListen_view : s.leaveListen.view = s.view := by simp [State.view]
@[simp] theorem State.receiveCause_view (c : TripCause) : (s.receiveCause c).view = s.view := by simp [State.view]
@[simp] theorem State.receiveStop_view : s.receiveStop.view = s.view := by simp [State.view]
@[simp] theorem State.stopLineAsserted_view : s.stopLineAsserted.view = s.view := by simp [State.view]
@[simp] theorem State.showStopLine_view (level : Bool) : (s.showStopLine level).view = s.view := by simp [State.view]
@[simp] theorem State.report31_view : s.report31.view = (s.geo, s.peers.entries, s.station.rest) := by
  simp [State.view]
@[simp] theorem State.demandNoticeStation_view (d : Direction) : (s.demandNoticeStation d).view = s.view := by
  simp [State.view]
@[simp] theorem State.demandNoticeProtection_view : s.demandNoticeProtection.view = s.view := by simp [State.view]
@[simp] theorem State.handHold_view (hold : Bool) : (s.handHold hold).view = s.view := rfl
@[simp] theorem State.answerQuery_view (page : Page) (i : Nat) : (s.answerQuery page i).view = s.view := rfl
@[simp] theorem State.judgeRelease_view : s.judgeRelease.view = s.view := by simp [State.view]
@[simp] theorem State.judgeAcknowledge_view (a : Nat) : (s.judgeAcknowledge a).view = s.view := by simp [State.view]
@[simp] theorem State.judgeClearTrip_view : s.judgeClearTrip.view = s.view := by simp [State.view]
@[simp] theorem State.governorExpiry_view : s.governorExpiry.view = s.view := by simp [State.view]
@[simp] theorem State.othersExpiry_view : s.othersExpiry.view = s.view := by
  unfold State.othersExpiry
  split <;> simp [State.view]
@[simp] theorem State.completeUpdate_view (n : Snapshot) : (s.completeUpdate n).view = s.view := by
  simp [State.view, State.completeUpdate]
@[simp] theorem State.completeDiscarded_view : s.completeDiscarded.view = s.view := by
  simp [State.view, State.completeDiscarded]
@[simp] theorem State.completeConversion_view (c : Channel) (raw : Int) : (s.completeConversion c raw).view = s.view := by
  simp [State.view, State.completeConversion]
@[simp] theorem State.completeSuperframe_view (running : Bool) : (s.completeSuperframe running).view = s.view := by
  simp [State.view, State.completeSuperframe]
@[simp] theorem State.idleFor_view (n : Nat) : (s.idleFor n).view = s.view := by simp [State.view]
@[simp] theorem State.passBitTime_view : s.passBitTime.view = s.view := by simp [State.view]
@[simp] theorem State.beginAttempt_view (b : Body) (seq : Nat) : (s.beginAttempt b seq).view = s.view := rfl
@[simp] theorem State.joinRx_view (e : RxEntry) : (s.joinRx e).view = s.view := by simp [State.view]
@[simp] theorem State.endReception_view : s.endReception.view = s.view := rfl
@[simp] theorem State.afterPost_view (levels : List Bool) (whole : Bool) : (s.afterPost levels whole).view = s.view := rfl
@[simp] theorem State.take_view (c : ProtClass) : (s.take c).view = s.view := by simp [State.view]
@[simp] theorem State.restartRaises_view : s.restartRaises.view = s.view := by
  have raises := foldl_keeps State.view (fun t c => t.raiseWith false .sensorFault (some c)) fun t c => by
    simp [State.view]
  unfold State.restartRaises
  dsimp only
  split
  · exact (State.take_view _ _).trans (raises _ _)
  · exact raises _ _

end

/-- Commands that are not the completion of an absorption, an expiry of the age clock or the release of the reset line
leave geometry record, entries, number, record and lock alone. -/
theorem exec_view {c : Instr} {s t : State} (run : exec c s = .next t) :
    t.view = s.view ∨ ((∃ b, c.about b = true) ∧ ∃ about route, t = s.completeAbsorption about route) ∨
      (s.station.state.live = true ∧ ∃ line, t = s.expirePostPeriod line) ∨ ∃ straps, c = .resetRelease straps := by
  cases c with
  | resetRelease straps => exact .inr (.inr (.inr ⟨straps, rfl⟩))
  | state => exact .inr (.inl ⟨⟨.state State.reset.stateRecord, rfl⟩, _, _, (Host.Outcome.next.inj run).symm⟩)
  | alert => exact .inr (.inl ⟨⟨.alert .trip [], rfl⟩, _, _, (Host.Outcome.next.inj run).symm⟩)
  | report => exact .inr (.inl ⟨⟨.report .grid 0 [], rfl⟩, _, _, (Host.Outcome.next.inj run).symm⟩)
  | demand => exact .inr (.inl ⟨⟨.demand .none, rfl⟩, _, _, (Host.Outcome.next.inj run).symm⟩)
  | config => exact .inr (.inl ⟨⟨.config 0 0 0, rfl⟩, _, _, (Host.Outcome.next.inj run).symm⟩)
  | query => exact .inr (.inl ⟨⟨.query 0 .grid 0, rfl⟩, _, _, (Host.Outcome.next.inj run).symm⟩)
  | stop => exact .inr (.inl ⟨⟨.order .stop 0 0, rfl⟩, _, _, (Host.Outcome.next.inj run).symm⟩)
  | release => exact .inr (.inl ⟨⟨.order .release 0 0, rfl⟩, _, _, (Host.Outcome.next.inj run).symm⟩)
  | clearTrip => exact .inr (.inl ⟨⟨.order .clearTrip 0 0, rfl⟩, _, _, (Host.Outcome.next.inj run).symm⟩)
  | acknowledge => exact .inr (.inl ⟨⟨.order .acknowledge 0 0, rfl⟩, _, _, (Host.Outcome.next.inj run).symm⟩)
  | restart => exact .inr (.inl ⟨⟨.order .restart 0 0, rfl⟩, _, _, (Host.Outcome.next.inj run).symm⟩)
  | lock => exact .inr (.inl ⟨⟨.order .lock 0 0, rfl⟩, _, _, (Host.Outcome.next.inj run).symm⟩)
  | postPeriodExpiry line =>
    simp only [exec, execPostPeriodExpiry] at run
    split at run <;> obtain rfl := Host.Outcome.next.inj run
    next live => exact .inr (.inr (.inl ⟨live, line, rfl⟩))
    next => exact .inl rfl
  | listenIntervalEnd line =>
    simp only [exec, execListenIntervalEnd] at run
    split at run <;> obtain rfl := Host.Outcome.next.inj run
    next listening => exact .inr (.inr (.inl ⟨by rw [listening.1]; rfl, line, rfl⟩))
    next => exact .inl rfl
  | coldReset =>
    cases run
    left
    dsimp only
    split <;> simp [State.abandonOperations, State.view, Station.rest]
  | lineHeldEnd | collision | absorption | transmissionCompletion | lineHeldEntry | taggedPost =>
    left
    simp only [exec, execLineHeldEnd, execCollision, execAbsorption, execTransmissionCompletion, execLineHeldEntry,
      execTaggedPost] at run
    repeat' split at run
    all_goals obtain rfl := Host.Outcome.next.inj run
    all_goals rfl
  | selfCheckCompletion a b line =>
    left
    simp only [exec, execSelfCheckCompletion] at run
    repeat' split at run
    all_goals obtain rfl := Host.Outcome.next.inj run
    · exact (State.leaveListen_view _).trans rfl
    all_goals rfl
  | lineHeldEpisode | postTransmission | startSymbol =>
    left
    simp only [exec, execLineHeldEpisode, execPostTransmission, execStartSymbol] at run
    repeat' split at run
    all_goals obtain rfl := Host.Outcome.next.inj run
    all_goals simp [State.view, State.beginAttempt]
  | _ =>
    left
    simp only [exec, execPostArrival, execControlPeriodExpiry, execControlUpdateCompletion, execConversionCompletion,
      execSuperframeCompletion, execSpinUpCompletion, execStopLineAsserted, execStopLineInactive,
      execPowerStageFault] at run
    repeat' split at run
    all_goals obtain rfl := Host.Outcome.next.inj run
    all_goals simp

/-- Only the release of the reset line makes a dead station live. -/
theorem exec_live {c : Instr} {s t : State} (run : exec c s = .next t) (unreleased : ∀ straps, c ≠ .resetRelease straps)
    (live : t.station.state.live = true) : s.station.state.live = true := by
  by_contra dead
  by_cases cold : c = .coldReset
  · subst cold
    cases run
    cases live
  · obtain ⟨station, -⟩ := exec_of_dead (by simpa using dead) run cold fun _ => unreleased
    exact dead (station ▸ live)

/-! ### Restarts and releases -/

section
variable {s : State}

theorem State.warmRestart_view (straps : Fin 8) : (s.warmRestart straps).view = s.warmValues.recomputeGeometry.view := by
  unfold State.warmRestart
  dsimp only
  split
  · exact (State.restartRaises_view _).trans rfl
  · rfl

theorem execResetRelease_view {straps : Fin 8} {t : State} (run : execResetRelease straps s = .next t) :
    t = s ∨ t.view = (s.released straps).view := by
  unfold execResetRelease at run
  dsimp only at run
  split at run
  · right
    split at run <;> obtain rfl := Host.Outcome.next.inj run
    · split <;> simp
    · rfl
  · exact .inl (Host.Outcome.next.inj run).symm

/-! ### Routes -/

theorem routeDemand_view (p : Post) : (routeDemand p s).view = s.view := by
  unfold routeDemand
  (repeat' split) <;> simp

theorem routeQuery_view (p : Post) : (routeQuery p s).view = s.view := by
  unfold routeQuery
  (repeat' split) <;> simp

/-- What an owner does to the entries, the routing of its order does. -/
theorem routeOrder_view {owner : Nat → State → State} (owned : ∀ a, (owner a s).view = s.view) (p : Post) :
    (routeOrder owner p s).view = s.view := by
  unfold routeOrder
  (repeat' split) <;> simp [owned]

/-- A post from another station than the host, routed to an owner, changes the view only as a STOP does. -/
theorem routeOrder_view_of_other {owner : Nat → State → State} {p : Post} {k : OrderKind} (about : p.body.isOrder k = true)
    (kind : k ≠ .stop) (other : p.source ≠ .s0) : (routeOrder owner p s).view = s.view := by
  unfold routeOrder
  split
  next k' _ _ eq =>
    obtain rfl : k' = k := by simpa [eq, Body.isOrder] using about
    split <;> simp [kind, other]
  next => rfl

end

/-! ### The peer entries (R22, R30) -/

theorem PeerEntry.absent_consistent : PeerEntry.absent.Consistent := by decide

theorem PeerEntry.accept_consistent (e : PeerEntry) (p : Post) : (e.accept p).Consistent :=
  ⟨nofun, fun _ => rfl, Nat.zero_le _, Nat.min_le_left _ _⟩

theorem PeerEntry.aged_consistent {e : PeerEntry} (h : e.Consistent) : e.aged.Consistent := by
  obtain ⟨absent, present, age, missed⟩ := h
  unfold PeerEntry.aged
  split
  · exact ⟨absent, present, age, missed⟩
  next known =>
    have some : presenceOfAge (countTo 255 e.age) ≠ .absent := by
      unfold presenceOfAge
      (repeat' split) <;> decide
    exact ⟨fun eq => absurd eq some, fun _ => rfl, countTo_le _ _, missed⟩

theorem PeerEntry.aged_presence {e : PeerEntry} (h : e.presence = .absent) : e.aged.presence = .absent := by
  simp [PeerEntry.aged, h]

/-- The entries are consistent and the own number has none, by station number. -/
def Peers.Kept (p : Peers) (own : Nat) : Prop :=
  (∀ i, (p.get i).Consistent) ∧ ∀ i : StationId, i.num = own → (p.get i).presence = .absent

theorem State.peerInv_of_kept {s : State} (h : s.peers.entries.Kept s.station.number) : s.PeerInv :=
  ⟨h.1 .s0, h.1 .s1, h.1 .s2, h.1 .s3, h.1 .s4, fun i _ own _ => h.2 i own⟩

theorem State.peerInv_iff_kept {s : State} (released : s.station.state ≠ .reset) :
    s.PeerInv ↔ s.peers.entries.Kept s.station.number := by
  refine ⟨fun ⟨e0, e1, e2, e3, e4, own⟩ => ⟨fun i => ?_, fun i eq => own i ?_ eq released⟩, State.peerInv_of_kept⟩
  · cases i <;> assumption
  · cases i <;> decide

theorem Peers.absent_kept (n : Nat) : Peers.absent.Kept n := by
  refine ⟨fun i => ?_, fun i _ => ?_⟩ <;> cases i
  all_goals first | exact PeerEntry.absent_consistent | rfl

theorem Peers.Kept.accepted {p : Peers} {n : Nat} (h : p.Kept n) (q : Post) (other : q.source.num ≠ n) :
    (p.set ((p.get q.source).accept q) q.source).Kept n := by
  obtain ⟨consistent, own⟩ := h
  refine ⟨fun i => ?_, fun i eq => ?_⟩
  · by_cases same : q.source = i
    · subst same
      simpa using PeerEntry.accept_consistent _ q
    · rw [Peers.get_set_other _ _ same]
      exact consistent i
  · rw [Peers.get_set_other _ _ (by rintro rfl; exact other eq)]
    exact own i eq

theorem Peers.Kept.aged {p : Peers} {n : Nat} (h : p.Kept n) : (p.map PeerEntry.aged).Kept n := by
  obtain ⟨consistent, own⟩ := h
  refine ⟨fun i => ?_, fun i eq => ?_⟩ <;> rw [Peers.get_map]
  · exact PeerEntry.aged_consistent (consistent i)
  · exact PeerEntry.aged_presence (own i eq)

section
variable {s t : State}

/-- The station's entries are kept as R22 and R30 say. -/
def State.PeersKept (s : State) : Prop := s.peers.entries.Kept s.station.number

theorem State.PeersKept.of_view (h : s.PeersKept) (same : t.view = s.view) : t.PeersKept := by
  obtain ⟨-, entries, rest⟩ := State.view_inj.1 same
  obtain ⟨number, -, -⟩ := Station.rest_inj.1 rest
  rw [State.PeersKept, entries, number]
  exact h

theorem State.PeersKept.judgeRestart (h : s.PeersKept) (straps : Fin 8) : (s.judgeRestart straps).PeersKept := by
  unfold State.judgeRestart
  split
  · have warm : s.warmValues.recomputeGeometry.PeersKept := Peers.absent_kept _
    exact warm.of_view (State.warmRestart_view straps)
  · exact h

theorem State.PeersKept.configItem (h : s.PeersKept) (item value : Nat) : (s.configItem item value).PeersKept := by
  unfold State.configItem
  dsimp only
  (repeat' split) <;> exact h

theorem State.PeersKept.judgeLock (h : s.PeersKept) : s.judgeLock.PeersKept := by
  unfold State.judgeLock
  split
  · split
    · exact h.of_view (by simp [State.view])
    · have locked : State.PeersKept { s with station := { s.station with locked := true } } := h
      exact locked.of_view (by simp [State.view])
  · exact h

theorem State.PeersKept.completeAbsorption (h : s.PeersKept) (about : Body → Bool) {route : Post → State → State}
    (routed : ∀ p (t : State), t.PeersKept → (route p t).PeersKept) : (s.completeAbsorption about route).PeersKept := by
  unfold State.completeAbsorption
  split
  next p _ =>
    split
    · unfold State.absorb
      dsimp only
      split
      · exact h.of_view (by simp)
      next other =>
        split
        · exact h
        · have accepted : (s.freeAbsorber.acceptPost p).PeersKept := Peers.Kept.accepted h p other
          have judged := routed p _ accepted
          refine Eq.mpr ?_ judged
          unfold State.PeersKept State.afterAcceptance
          dsimp only
          split <;> simp
    · exact h
  next => exact h

theorem routeOrder_peersKept (h : s.PeersKept) {owner : Nat → State → State}
    (owned : ∀ a (t : State), t.PeersKept → (owner a t).PeersKept) (p : Post) : (routeOrder owner p s).PeersKept := by
  unfold routeOrder
  repeat' split
  · exact owned _ _ h
  all_goals exact h

theorem State.PeersKept.expirePostPeriod (h : s.PeersKept) (line : Bool) : (s.expirePostPeriod line).PeersKept := by
  have aged : s.buildStatePost.agePeers.recomputeGeometry.PeersKept := by
    simpa [State.PeersKept, State.agePeers] using Peers.Kept.aged h
  exact aged.of_view (by simp [State.expirePostPeriod, State.view])

/-- Outside RESET every command keeps the entries. -/
theorem exec_peersKept {c : Instr} (h : s.PeersKept) (run : exec c s = .next t)
    (unreleased : ∀ straps, c ≠ .resetRelease straps) : t.PeersKept := by
  cases c with
  | resetRelease straps => exact absurd rfl (unreleased straps)
  | state | alert | report =>
    cases run
    exact h.completeAbsorption _ fun _ _ h => h
  | demand =>
    cases run
    exact h.completeAbsorption _ fun p _ h => h.of_view (routeDemand_view p)
  | config =>
    cases run
    refine h.completeAbsorption _ fun p t h => ?_
    unfold routeConfig
    repeat' split
    · exact h.configItem _ _
    all_goals exact h
  | query =>
    cases run
    exact h.completeAbsorption _ fun p _ h => h.of_view (routeQuery_view p)
  | restart straps =>
    cases run
    exact h.completeAbsorption _ fun p _ h => routeOrder_peersKept h (fun _ _ h => h.judgeRestart straps) p
  | lock line =>
    cases run
    exact h.completeAbsorption _ fun p _ h =>
      routeOrder_peersKept h (fun _ t h => State.PeersKept.judgeLock (s := t.showFaultLine line) h) p
  | stop | release | clearTrip | acknowledge =>
    cases run
    exact h.completeAbsorption _ fun p _ h => h.of_view (routeOrder_view (fun _ => by simp) p)
  | _ =>
    obtain same | ⟨⟨b, about⟩, -⟩ | ⟨-, line, rfl⟩ | ⟨straps, eq⟩ := exec_view run
    · exact h.of_view same
    · cases b <;> cases about
    · exact h.expirePostPeriod line
    · cases eq

theorem exec_peerInv {c : Instr} (h : s.PeerInv) (run : exec c s = .next t) : t.PeerInv := by
  by_cases release : ∃ straps, c = .resetRelease straps
  · obtain ⟨straps, rfl⟩ := release
    obtain rfl | same := execResetRelease_view run
    · exact h
    · have absent : (s.released straps).PeersKept := Peers.absent_kept _
      exact State.peerInv_of_kept (absent.of_view same)
  · have unreleased : ∀ straps, c ≠ .resetRelease straps := fun straps eq => release ⟨straps, eq⟩
    by_cases reset : s.station.state = .reset
    · have still : t.station.state = .reset := by
        by_contra left
        exact release ((isolationAndResetAreLeftOnlySo c s t run).2 reset left)
      have dead : s.station.state.live = false := by rw [reset]; rfl
      have entries : t.peers.entries = s.peers.entries := by
        obtain same | ⟨-, about, route, rfl⟩ | ⟨live, -⟩ | ⟨straps, eq⟩ := exec_view run
        · exact (State.view_inj.1 same).2.1
        · rw [State.completeAbsorption_of_dead dead]
        · exact absurd live (by simp [dead])
        · exact absurd eq (unreleased straps)
      obtain ⟨e0, e1, e2, e3, e4, -⟩ := h
      rw [State.PeerInv, entries]
      exact ⟨e0, e1, e2, e3, e4, fun _ _ _ released => absurd still released⟩
    · exact State.peerInv_of_kept (exec_peersKept ((State.peerInv_iff_kept reset).1 h) run unreleased)

end

/-! ### The geometry record (R67) -/

section
variable {s t : State}

theorem State.geometry_of_view (same : t.view = s.view) : t.geometry = s.geometry := by
  obtain ⟨-, entries, rest⟩ := State.view_inj.1 same
  obtain ⟨number, record, -⟩ := Station.rest_inj.1 rest
  simp [State.geometry, State.demand, State.side, entries, number, record]

/-- The geometry record is the one its inputs call for. -/
def State.GeometryKept (s : State) : Prop := s.geo = s.geometry

theorem State.GeometryKept.of_view (h : s.GeometryKept) (same : t.view = s.view) : t.GeometryKept := by
  obtain ⟨geo, -, -⟩ := State.view_inj.1 same
  rw [State.GeometryKept, geo, State.geometry_of_view same]
  exact h

theorem State.recomputeGeometry_kept (s : State) : s.recomputeGeometry.GeometryKept := rfl

/-- An accepted post of the host is followed by a recomputation (R67); one of another station leaves every input of the
geometry record alone. -/
theorem State.completeAbsorption_geometry (h : s.GeometryInv) (about : Body → Bool) {route : Post → State → State}
    (others : ∀ p (t : State), about p.body = true → p.source ≠ .s0 → (route p t).view = t.view) :
    (s.completeAbsorption about route).GeometryInv := by
  unfold State.completeAbsorption
  split
  next p _ =>
    split
    next going =>
      have kept : s.GeometryKept := h going.1
      unfold State.absorb
      dsimp only
      repeat' split
      · exact fun _ => kept.of_view (by simp)
      · exact fun _ => kept.of_view rfl
      · unfold State.afterAcceptance
        dsimp only
        split
        · exact fun _ => (State.recomputeGeometry_kept (route p (s.freeAbsorber.acceptPost p))).of_view
            (by simp [State.view])
        next other =>
          intro live
          have source : p.source ≠ .s0 := fun eq => other ⟨eq, by simpa using live⟩
          have accepted : (s.freeAbsorber.acceptPost p).GeometryKept := by
            have host : (s.freeAbsorber.acceptPost p).peers.entries.e0 = s.peers.entries.e0 :=
              Peers.get_set_other _ _ (j := .s0) source
            have same : (s.freeAbsorber.acceptPost p).geometry = s.geometry := by
              simp only [State.geometry, State.demand, host]
              rfl
            exact kept.trans same.symm
          exact State.GeometryKept.of_view (accepted.of_view (others p _ going.2 source)) (by simp [State.view])
    next => exact h
  next => exact h

/-- The cold geometry record is the one of a default record without a demand, on either side (R66). -/
theorem geometryOf_cold (side : Side) :
    geometryOf (demandInForce .absent CommRecord.default.orphanCeiling) side .default = .cold := by
  cases side <;> decide

theorem exec_geometry {c : Instr} (h : s.GeometryInv) (run : exec c s = .next t) : t.GeometryInv := by
  cases c with
  | resetRelease straps =>
    obtain rfl | same := execResetRelease_view run
    · exact h
    · have cold : (s.released straps).GeometryKept := (geometryOf_cold _).symm
      exact fun _ => cold.of_view same
  | state | alert | report =>
    cases run
    exact State.completeAbsorption_geometry h _ fun _ _ _ _ => rfl
  | demand =>
    cases run
    exact State.completeAbsorption_geometry h _ fun p _ _ _ => routeDemand_view p
  | config =>
    cases run
    refine State.completeAbsorption_geometry h _ fun p _ _ other => ?_
    unfold routeConfig
    split <;> simp [other]
  | query =>
    cases run
    exact State.completeAbsorption_geometry h _ fun p _ _ _ => routeQuery_view p
  | stop =>
    cases run
    exact State.completeAbsorption_geometry h _ fun p _ _ _ => routeOrder_view (fun _ => by simp) p
  | release | clearTrip | acknowledge | restart | lock =>
    cases run
    exact State.completeAbsorption_geometry h _ fun p _ about other => routeOrder_view_of_other about (by decide) other
  | _ =>
    intro live
    obtain same | ⟨⟨b, about⟩, -⟩ | ⟨-, line, rfl⟩ | ⟨straps, eq⟩ := exec_view run
    · exact State.GeometryKept.of_view (h (exec_live run nofun live)) same
    · cases b <;> cases about
    · exact (State.recomputeGeometry_kept s.buildStatePost.agePeers).of_view
        (by simp [State.expirePostPeriod, State.view])
    · cases eq

end

end Sys2Proof.Machine

open Sys2Proof Sys2Proof.Machine

/-- Settles O9. -/
theorem stepKeepsGeometry : Obligations.StepKeepsGeometry := by
  intro s t h run
  cases queue : s.pending with
  | nil =>
    rw [step_of_empty queue] at run
    obtain rfl := Host.Outcome.next.inj run
    exact fun live => State.GeometryKept.of_view (h (by simpa using live)) s.passBitTime_view
  | cons c rest =>
    rw [step_of_pending queue] at run
    exact exec_geometry (s := s.withPending rest) h run

/-- Settles O11: in RESET the own number has no say, and every other state is left only with the entries kept. -/
theorem stepKeepsPeers : Obligations.StepKeepsPeers := by
  intro s t h run
  cases queue : s.pending with
  | nil =>
    rw [step_of_empty queue] at run
    obtain rfl := Host.Outcome.next.inj run
    simpa [State.PeerInv] using h
  | cons c rest =>
    rw [step_of_pending queue] at run
    exact exec_peerInv (s := s.withPending rest) h run

end

section
/-! SUPPORT. Grid section, LINK_VOLTAGE record and winding accumulator (R56, R60, R121, R135, R136, R141, R146): what their
invariants read of a state (`State.gridView`), and what the commands do to it. -/

namespace Sys2Proof.Machine

/-! ### What the invariants read -/

/-- Grid section, LINK_VOLTAGE record, accumulator and derate, and the station's number, record and lock. -/
def State.gridView (s : State) : Grid × ChannelRecord × (Nat × Nat) × Station :=
  (s.grid, s.meas.channels.linkVoltage, (s.load.accumulator, s.load.derate), s.station.rest)

section
variable (s : State)

@[simp] theorem State.followWheel_link : s.followWheel.meas.channels.linkVoltage = s.meas.channels.linkVoltage := by
  unfold State.followWheel
  split <;> rfl
@[simp] theorem State.followTorque_link : s.followTorque.meas.channels.linkVoltage = s.meas.channels.linkVoltage := by
  unfold State.followTorque
  split <;> rfl
@[simp] theorem State.departRun_link (m : Mode) :
    (s.departRun m).meas.channels.linkVoltage = s.meas.channels.linkVoltage := by simp [State.departRun]
@[simp] theorem State.trip_link (c : TripCause) : (s.trip c).meas.channels.linkVoltage = s.meas.channels.linkVoltage := by
  unfold State.trip
  dsimp only
  split <;> simp
@[simp] theorem State.receiveCause_link (c : TripCause) :
    (s.receiveCause c).meas.channels.linkVoltage = s.meas.channels.linkVoltage := by
  obtain ⟨-, eq⟩ | ⟨-, -, eq⟩ | ⟨-, -, eq⟩ | ⟨-, eq⟩ := s.receiveCause_cases c <;> simp [eq]
@[simp] theorem State.enterReady_link : s.enterReady.meas.channels.linkVoltage = s.meas.channels.linkVoltage := by
  unfold State.enterReady
  dsimp only
  split <;> simp
@[simp] theorem State.leaveListen_link : s.leaveListen.meas.channels.linkVoltage = s.meas.channels.linkVoltage := by
  unfold State.leaveListen
  (repeat' split) <;> simp
@[simp] theorem State.countListen_link : s.countListen.meas.channels.linkVoltage = s.meas.channels.linkVoltage := by
  unfold State.countListen
  split <;> simp
@[simp] theorem State.enterHeld_link : s.enterHeld.meas.channels.linkVoltage = s.meas.channels.linkVoltage := by
  simp [State.enterHeld]
@[simp] theorem State.completionReport_link (n : Snapshot) (u : UpdateResult) :
    (s.completionReport n u).meas.channels.linkVoltage = s.meas.channels.linkVoltage := by
  unfold State.completionReport
  (repeat' split) <;> simp

@[simp] theorem State.report31_accumulator : s.report31.load.accumulator = s.load.accumulator := by
  unfold State.report31
  dsimp only
  (repeat' split) <;> simp [State.classifyPayload]
@[simp] theorem State.report31_derate : s.report31.load.derate = s.load.derate := by
  unfold State.report31
  dsimp only
  (repeat' split) <;> simp [State.classifyPayload]

/-! ### What leaves the view alone -/

@[simp] theorem State.bump_gridView (c : CounterId) : (s.bump c).gridView = s.gridView := rfl
@[simp] theorem State.withPending_gridView (q : List Instr) : (s.withPending q).gridView = s.gridView := rfl
@[simp] theorem State.receiveCause_gridView (c : TripCause) : (s.receiveCause c).gridView = s.gridView := by
  simp [State.gridView]
@[simp] theorem State.take_gridView (c : ProtClass) : (s.take c).gridView = s.gridView := by simp [State.gridView]
@[simp] theorem State.judge_gridView (c : ProtClass) (holds : Bool) : (s.judge c holds).gridView = s.gridView := by
  simp [State.gridView]
@[simp] theorem State.receiveStop_gridView : s.receiveStop.gridView = s.gridView := by simp [State.gridView]
@[simp] theorem State.report31_gridView : s.report31.gridView = s.gridView := by simp [State.gridView]
@[simp] theorem State.hearOwnNumber_gridView : s.hearOwnNumber.gridView = s.gridView := by
  unfold State.hearOwnNumber
  dsimp only
  split <;> rfl
@[simp] theorem State.enterReady_gridView : s.enterReady.gridView = s.gridView := by simp [State.gridView]
@[simp] theorem State.leaveListen_gridView : s.leaveListen.gridView = s.gridView := by simp [State.gridView]
@[simp] theorem State.judgeClearTrip_gridView : s.judgeClearTrip.gridView = s.gridView := by
  unfold State.judgeClearTrip
  split
  · exact (State.enterReady_gridView _).trans rfl
  · rfl
@[simp] theorem State.expirePostPeriod_gridView (line : Bool) : (s.expirePostPeriod line).gridView = s.gridView := by
  simp [State.gridView, State.expirePostPeriod]
@[simp] theorem State.governorExpiry_gridView : s.governorExpiry.gridView = s.gridView := by simp [State.gridView]
@[simp] theorem State.restartRaises_gridView : s.restartRaises.gridView = s.gridView := by
  have raises := foldl_keeps State.gridView (fun t c => t.raiseWith false .sensorFault (some c)) fun t c => by
    simp [State.gridView]
  unfold State.restartRaises
  dsimp only
  split
  · exact (State.take_gridView _ _).trans (raises _ _)
  · exact raises _ _
@[simp] theorem State.isolate_gridView (r : IsolationReason) : (s.isolate r).gridView = s.gridView := rfl
@[simp] theorem State.startSelfCheck_gridView : s.startSelfCheck.gridView = s.gridView := rfl

theorem routeDemand_gridView (p : Post) : (routeDemand p s).gridView = s.gridView := by
  unfold routeDemand
  (repeat' split) <;> simp [State.gridView]

theorem routeQuery_gridView (p : Post) : (routeQuery p s).gridView = s.gridView := by
  unfold routeQuery
  (repeat' split) <;> simp [State.gridView]

end

/-! ### The invariant -/

/-- A LINK_VOLTAGE record holds plausible values (R56, R60). -/
structure ChannelRecord.Plausible (r : ChannelRecord) : Prop where
  value : 0 ≤ r.value ∧ r.value ≤ 2600
  lastGood : ∀ v ∈ r.lastGood, 0 ≤ v ∧ v ≤ 2600

/-- The stages of a grid section (R135, R136); `free` where nothing ties the target to the established stage. -/
def Grid.Staged (g : Grid) (free : Prop) : Prop :=
  match g.spinUp with
  | none => free ∨ g.target = g.established
  | some n => 1 ≤ n ∧ n ≤ 125 ∧ g.established < g.target

/-- Grid section, LINK_VOLTAGE record and winding are in their ranges. -/
structure State.GridOk (free : Prop) (s : State) : Prop where
  elapsed : s.grid.elapsed ≤ 7999
  duty : s.grid.duty ≤ 4095
  established : s.grid.established ≤ 3
  target : s.grid.target ≤ 3
  openCounter : s.grid.openCounter ≤ 8
  latched : s.grid.latchedVoltage ≤ 2600
  offer : s.grid.offer ≤ s.station.record.gridPower
  unlocked : s.station.locked = false → s.grid.offer = 0
  link : s.meas.channels.linkVoltage.Plausible
  staged : s.grid.Staged free
  winding : s.WindingInv

theorem State.gridInv_iff {s : State} : s.GridInv ∧ s.WindingInv ↔ s.GridOk (s.station.state = .reset) := by
  have good (o : Option Int) : (match o with | some v => 0 ≤ v ∧ v ≤ 2600 | none => True) ↔
      ∀ v ∈ o, 0 ≤ v ∧ v ≤ 2600 := by cases o <;> simp
  have staged : (match s.grid.spinUp with
      | none => s.station.state ≠ .reset → s.grid.target = s.grid.established
      | some n => 1 ≤ n ∧ n ≤ 125 ∧ s.grid.established < s.grid.target) ↔
      s.grid.Staged (s.station.state = .reset) := by
    unfold Grid.Staged
    split
    · exact or_iff_not_imp_left.symm
    · exact Iff.rfl
  constructor
  · rintro ⟨⟨a, b, c, d, e, f, g, h, v, l, m⟩, w⟩
    exact ⟨a, b, c, d, e, f, g, h, ⟨v, (good _).1 l⟩, staged.1 m, w⟩
  · rintro ⟨a, b, c, d, e, f, g, h, ⟨v, l⟩, m, w⟩
    exact ⟨⟨a, b, c, d, e, f, g, h, v, (good _).2 l, staged.2 m⟩, w⟩

section
variable {s t : State} {free : Prop}

theorem State.GridOk.weaken {free' : Prop} (h : s.GridOk free) (imp : free → free') : s.GridOk free' := by
  obtain ⟨a, b, c, d, e, f, g, i, j, staged, w⟩ := h
  refine ⟨a, b, c, d, e, f, g, i, j, ?_, w⟩
  rw [Grid.Staged] at staged ⊢
  cases flying : s.grid.spinUp with
  | none =>
    rw [flying] at staged
    exact staged.imp_left imp
  | some n => rwa [flying] at staged

theorem State.GridOk.of_view (h : s.GridOk free) (same : t.gridView = s.gridView) : t.GridOk free := by
  simp only [State.gridView, Prod.mk.injEq] at same
  obtain ⟨grid, link, ⟨accumulator, derate⟩, rest⟩ := same
  obtain ⟨-, record, locked⟩ := Station.rest_inj.1 rest
  obtain ⟨a, b, c, d, e, f, g, i, j, k, w⟩ := h
  exact ⟨grid ▸ a, grid ▸ b, grid ▸ c, grid ▸ d, grid ▸ e, grid ▸ f, by rwa [grid, record], by rwa [grid, locked],
    link ▸ j, grid ▸ k, by simpa only [State.WindingInv, accumulator, derate] using w⟩

/-- A change of the channel records alone, at which LINK_VOLTAGE stays plausible. -/
theorem State.GridOk.of_link (h : s.GridOk free) (grid : t.grid = s.grid) (load : t.load = s.load)
    (rest : t.station.rest = s.station.rest) (link : t.meas.channels.linkVoltage.Plausible) : t.GridOk free := by
  obtain ⟨-, record, locked⟩ := Station.rest_inj.1 rest
  obtain ⟨a, b, c, d, e, f, g, i, -, k, w⟩ := h
  exact ⟨grid ▸ a, grid ▸ b, grid ▸ c, grid ▸ d, grid ▸ e, grid ▸ f, by rwa [grid, record], by rwa [grid, locked],
    link, grid ▸ k, by simpa only [State.WindingInv, load] using w⟩

/-! ### Pops return channels -/

theorem State.returnChannel_plausible (h : s.meas.channels.linkVoltage.Plausible) (c : Channel) :
    (s.returnChannel c).meas.channels.linkVoltage.Plausible := by
  cases c <;> try exact h
  obtain ⟨value, lastGood⟩ := h
  refine ⟨?_, lastGood⟩
  have returned : (s.returnChannel .linkVoltage).meas.channels.linkVoltage.value =
      s.meas.channels.linkVoltage.lastGood.getD s.meas.channels.linkVoltage.value := rfl
  rw [returned]
  cases eq : s.meas.channels.linkVoltage.lastGood with
  | none => exact value
  | some v => exact lastGood v eq

theorem State.afterPop_plausible (h : s.meas.channels.linkVoltage.Plausible) (x : Context) :
    (s.afterPop x).meas.channels.linkVoltage.Plausible := by
  have returned (l : List Channel) (t : State) (h : t.meas.channels.linkVoltage.Plausible) :
      (l.foldl State.returnChannel t).meas.channels.linkVoltage.Plausible := by
    induction l generalizing t with
    | nil => exact h
    | cons c rest ih => exact ih _ (State.returnChannel_plausible h c)
  unfold State.afterPop
  dsimp only
  repeat' split
  · exact returned _ _ (by simpa using h)
  · exact returned _ _ (by simpa using h)
  · simpa using h

theorem State.pop_plausible (h : s.meas.channels.linkVoltage.Plausible) : s.pop.meas.channels.linkVoltage.Plausible := by
  have popped (l : List Context) (t : State) (h : t.meas.channels.linkVoltage.Plausible) :
      (l.foldl State.afterPop t).meas.channels.linkVoltage.Plausible := by
    induction l generalizing t with
    | nil => exact h
    | cons x rest ih => exact ih _ (State.afterPop_plausible h x)
  rw [State.pop_eq, State.promotePending_meas]
  exact popped _ _ h

theorem State.GridOk.pop (h : s.GridOk free) : s.pop.GridOk free :=
  h.of_link (by simp) (by simp) (by simp) (State.pop_plausible h.link)

theorem State.GridOk.readyAndPop (h : s.GridOk free) (c : ProtClass) : (s.readyAndPop c).GridOk free :=
  State.GridOk.pop (h.of_view rfl)

theorem State.GridOk.protectionExpiry (h : s.GridOk free) : s.protectionExpiry.GridOk free :=
  State.GridOk.pop (h.of_view rfl)

/-! ### Absorption -/

theorem State.GridOk.completeAbsorption (h : s.GridOk free) (about : Body → Bool) {route : Post → State → State}
    (routed : ∀ p (t : State), t.GridOk free → (route p t).GridOk free) :
    (s.completeAbsorption about route).GridOk free := by
  unfold State.completeAbsorption
  split
  next p _ =>
    split
    · unfold State.absorb
      dsimp only
      repeat' split
      · exact h.of_view ((State.hearOwnNumber_gridView _).trans rfl)
      · exact h.of_view rfl
      · refine (routed p (s.freeAbsorber.acceptPost p) (h.of_view rfl)).of_view ?_
        unfold State.afterAcceptance
        dsimp only
        split <;> rw [State.report31_gridView]
        rfl
    · exact h
  next => exact h

theorem routeOrder_gridOk (h : s.GridOk free) {owner : Nat → State → State}
    (owned : ∀ a (t : State), t.GridOk free → (owner a t).GridOk free) (p : Post) :
    (routeOrder owner p s).GridOk free := by
  unfold routeOrder
  repeat' split
  · exact owned _ _ h
  · exact h.of_view rfl
  all_goals exact h

theorem State.GridOk.judgeRelease (h : s.GridOk free) : s.judgeRelease.GridOk free := by
  unfold State.judgeRelease
  split
  · exact h.readyAndPop _
  · exact h.of_view rfl

theorem State.GridOk.judgeAcknowledge (h : s.GridOk free) (a : Nat) : (s.judgeAcknowledge a).GridOk free := by
  unfold State.judgeAcknowledge
  split
  · exact h.readyAndPop _
  · exact h.of_view rfl

theorem State.GridOk.judgeLock (h : s.GridOk free) : s.judgeLock.GridOk free := by
  unfold State.judgeLock
  split
  · split
    · exact h.of_view (by simp [State.gridView])
    · have locked : State.GridOk free { s with station := { s.station with locked := true } } := { h with unlocked := nofun }
      exact locked.of_view (by simp [State.gridView])
  · exact h.of_view rfl

/-- An unlocked record goes with an offer of 0, so that grid_power may change (R46, R132). -/
theorem State.GridOk.configItem (h : s.GridOk free) (item value : Nat) : (s.configItem item value).GridOk free := by
  unfold State.configItem
  split
  · exact h.of_view rfl
  next unlocked =>
    have none := h.unlocked (by simpa using unlocked)
    have stored (r : CommRecord) : State.GridOk free { s with station := { s.station with record := r } } :=
      { h with offer := none.trans_le (Nat.zero_le _) }
    split
    · exact h.of_view rfl
    · dsimp only
      split
      · exact stored _
      · exact (stored _).of_view rfl

theorem State.GridOk.judgeRestart (h : s.GridOk free) (straps : Fin 8) : (s.judgeRestart straps).GridOk free := by
  have warm : s.warmValues.recomputeGeometry.GridOk free :=
    { h with openCounter := Nat.zero_le 8, offer := Nat.zero_le _, unlocked := fun _ => rfl }
  unfold State.judgeRestart
  split
  · unfold State.warmRestart
    dsimp only
    split
    · exact warm.of_view ((State.restartRaises_gridView _).trans rfl)
    · exact warm.of_view rfl
  · exact h.of_view rfl

/-! ### The winding -/

theorem State.GridOk.setAccumulator (h : s.GridOk free) {a : Nat} (le : a ≤ aMax) : (s.setAccumulator a).GridOk free :=
  { h with winding := ⟨le, rfl⟩ }

theorem State.GridOk.judgeWinding (h : s.GridOk free) : s.judgeWinding.GridOk free :=
  h.of_view (s.judge_gridView _ _)

theorem State.GridOk.coolWinding (h : s.GridOk free) : s.coolWinding.GridOk free := by
  have cooled : s.load.accumulator - 256 ≤ aMax := le_trans (Nat.sub_le _ _) h.winding.1
  exact (h.setAccumulator cooled).judgeWinding

theorem State.GridOk.integrateWinding (h : s.GridOk free) : s.integrateWinding.GridOk free := by
  unfold State.integrateWinding
  exact (h.setAccumulator (Nat.min_le_left aMax _)).judgeWinding

theorem State.GridOk.othersExpiry (h : s.GridOk free) : s.othersExpiry.GridOk free := by
  unfold State.othersExpiry
  split
  · exact h.protectionExpiry
  · exact h.coolWinding.protectionExpiry

theorem State.GridOk.completeDiscarded (h : s.GridOk free) : s.completeDiscarded.GridOk free :=
  h.coolWinding.of_view (by simp [State.completeDiscarded, State.gridView])

theorem State.GridOk.completeUpdate (h : s.GridOk free) (n : Snapshot) : (s.completeUpdate n).GridOk free := by
  unfold State.completeUpdate
  dsimp only
  generalize runStages s.station.record n = u
  have followed : (s.storeUpdate n u).followWheel.followTorque.GridOk free := h.of_view (by simp [State.gridView])
  exact followed.integrateWinding.of_view (by simp [State.gridView])

/-! ### Conversions -/

theorem State.updateRecord_plausible (h : s.meas.channels.linkVoltage.Plausible) (c : Channel) (r : Int) :
    (s.updateRecord c (judgeResult c (s.meas.channels.get c) r) r).meas.channels.linkVoltage.Plausible := by
  by_cases link : c = .linkVoltage
  · subst link
    obtain ⟨value, lastGood⟩ := h
    have range : judgeResult .linkVoltage s.meas.channels.linkVoltage r = .good → 0 ≤ r ∧ r ≤ 2600 := by
      simp [judgeResult, plausible]
    have fallback : (0 : Int) ≤ 1800 ∧ (1800 : Int) ≤ 2600 := by decide
    change (State.updateRecord s .linkVoltage (judgeResult .linkVoltage s.meas.channels.linkVoltage r)
      r).meas.channels.linkVoltage.Plausible
    unfold State.updateRecord
    dsimp only
    split
    next good =>
      have bounds := range good
      refine ⟨?_, fun v eq => Option.some.inj eq ▸ bounds⟩
      change 0 ≤ (if s.meas.channels.linkVoltage.faulted then s.meas.channels.linkVoltage.value else r) ∧
        (if s.meas.channels.linkVoltage.faulted then s.meas.channels.linkVoltage.value else r) ≤ 2600
      split
      · exact value
      · exact bounds
    · split
      · rw [State.raise_meas]
        split
        · exact ⟨value, lastGood⟩
        · exact ⟨fallback, lastGood⟩
      · exact ⟨value, lastGood⟩
  · have other (x : Channels) (r : ChannelRecord) : (x.set r c).linkVoltage = x.linkVoltage :=
      Channels.get_set_other x r (k := c) (j := .linkVoltage) link
    unfold State.updateRecord
    dsimp only
    (repeat' split) <;> simpa [State.setChannel, State.markFaulted, other] using h

theorem State.GridOk.handOver (h : s.GridOk free) (c : Channel) (j : Judgement) (r : Int) :
    (s.handOver c j r).GridOk free := by
  unfold State.handOver
  repeat' split
  · exact h.of_view (s.receiveCause_gridView _)
  · exact h
  · exact h.judgeWinding
  · exact { h with }
  · exact h
  · exact { h with }
  all_goals exact h

theorem State.GridOk.completeConversion (h : s.GridOk free) (c : Channel) (raw : Int) :
    (s.completeConversion c raw).GridOk free := by
  have stored (r : Int) : (s.updateRecord c (judgeResult c (s.meas.channels.get c) r) r).GridOk free :=
    h.of_link (by simp) (by simp) (by simp) (State.updateRecord_plausible h.link c r)
  exact ((stored _).handOver c _ _).of_view rfl

/-! ### Superframes -/

theorem offerOfTemp_le (gridPower : Nat) (tg : Int) : offerOfTemp gridPower tg ≤ gridPower := by
  unfold offerOfTemp
  split
  · exact le_rfl
  next warm =>
    split
    · exact Nat.zero_le _
    · have part : (6000 - tg).toNat ≤ 1000 := by omega
      exact Nat.div_le_of_le_mul (Nat.mul_comm 1000 _ ▸ Nat.mul_le_mul_left gridPower part)

theorem State.offerNow_le (s : State) (tg : Option Int) : s.offerNow tg ≤ s.station.record.gridPower := by
  unfold State.offerNow
  split
  · exact Nat.zero_le _
  next t =>
    have full := offerOfTemp_le s.station.record.gridPower t
    dsimp only
    repeat' split
    · omega
    · exact full
    · exact Nat.zero_le _

theorem State.GridOk.stepThermal (h : s.GridOk free) (locked : s.station.state = .run → s.station.locked = true) :
    s.stepThermal.GridOk free := by
  refine { h with offer := s.offerNow_le _, unlocked := fun unlocked => ?_ }
  have left : s.station.state ≠ .run := fun running => by simp [State.stepThermal, locked running] at unlocked
  simp only [State.stepThermal, State.offerNow, left, false_and, if_false]
  split <;> rfl

theorem State.GridOk.judgeGridOpen (h : s.GridOk free) : s.judgeGridOpen.GridOk free := by
  have counted (n : Nat) (le : n ≤ 8) : State.GridOk free { s with grid := { s.grid with openCounter := n } } :=
    { h with openCounter := le }
  unfold State.judgeGridOpen
  dsimp only
  split
  · exact (counted 0 (Nat.zero_le 8)).of_view (State.receiveCause_gridView _ _)
  next below => exact counted _ (by omega)

theorem State.GridOk.countSpinUp (h : s.GridOk free) (running : Bool) : (s.countSpinUp running).GridOk free := by
  unfold State.countSpinUp
  split
  · exact h
  next n flying =>
    have staged := h.staged
    rw [Grid.Staged, flying] at staged
    obtain ⟨low, high, above⟩ := staged
    split
    · unfold State.spinUpCheck
      dsimp only
      split
      · exact { h with established := h.target, staged := .inr rfl }
      · have failed : State.GridOk free { s with
            pins := { s.pins with blowerRunning := running }
            grid := { s.grid with target := s.grid.established, spinUp := none, blowerFault := true } } :=
          { h with target := h.established, staged := .inr rfl }
        split
        · exact failed
        · exact failed.of_view (by simp [State.gridView])
    next more => exact { h with staged := ⟨by omega, by omega, above⟩ }

theorem highestStage_le (ok : Nat → Bool) : highestStage ok ≤ 3 := by
  unfold highestStage
  (repeat' split) <;> decide

theorem requestedStage_le {r : Nat} (le : r ≤ 3) (tm : Int) (duty : Nat) : requestedStage r tm duty ≤ 3 := by
  unfold requestedStage
  dsimp only
  repeat' split
  all_goals first | exact highestStage_le _ | exact le | decide

/-- What the grid section does with a requested stage keeps the target above the established stage while a spin-up is
in flight, and equal to it else (R135, R136). -/
theorem State.GridOk.act (h : s.GridOk free) {q : Nat} (le : q ≤ 3) :
    State.GridOk free { s with grid := s.grid.act q } := by
  have staged := h.staged
  cases flying : s.grid.spinUp with
  | none =>
    simp only [Grid.act, flying]
    repeat' split
    next up => exact { h with target := le, staged := ⟨by decide, by decide, up⟩ }
    · exact { h with established := le, target := le, staged := .inr rfl }
    · exact h
  | some n =>
    rw [Grid.Staged, flying] at staged
    obtain ⟨low, high, above⟩ := staged
    simp only [Grid.act, flying]
    repeat' split
    next up => exact { h with target := le, staged := ⟨by decide, by decide, above.trans up⟩ }
    · exact h
    next same => exact { h with target := le, staged := .inr same }
    · exact { h with established := le, target := le, staged := .inr rfl }
    next other below => exact { h with target := le, staged := ⟨by decide, by decide, by
      show s.grid.established < q
      omega⟩ }

theorem computedDuty_le (request resistance v : Nat) (faulted : Bool) : computedDuty request resistance v faulted ≤ 4095 :=
  Nat.min_le_left _ _

theorem State.dutyAtStart_le (s : State) (v : Nat) : s.dutyAtStart v ≤ 4095 := by
  unfold State.dutyAtStart
  repeat' split
  · exact computedDuty_le _ _ _ _
  · exact computedDuty_le _ _ _ _
  all_goals decide

theorem State.GridOk.beginSuperframe (h : s.GridOk free) : s.beginSuperframe.GridOk free := by
  obtain ⟨⟨low, high⟩, -⟩ := h.link
  have voltage : s.meas.channels.linkVoltage.value.toNat ≤ 2600 := by omega
  exact { h with elapsed := Nat.zero_le _, duty := s.dutyAtStart_le _, latched := voltage }

theorem State.GridOk.completeSuperframe (h : s.GridOk free) (locked : s.station.state = .run → s.station.locked = true)
    (running : Bool) : (s.completeSuperframe running).GridOk free := by
  have judged : (s.stepThermal.judge .gridHot s.stepThermal.gridHot).GridOk free :=
    (h.stepThermal locked).of_view (State.judge_gridView _ _ _)
  have counted := judged.judgeGridOpen.countSpinUp running
  exact (counted.act (requestedStage_le counted.target _ _)).beginSuperframe

/-! ### Every command -/

theorem exec_gridOk {c : Instr} (h : s.GridOk free) (locked : s.station.state = .run → s.station.locked = true)
    (run : exec c s = .next t) (cold : c ≠ .coldReset) (unreleased : ∀ straps, c ≠ .resetRelease straps) :
    t.GridOk free := by
  cases c with
  | coldReset => exact absurd rfl cold
  | resetRelease straps => exact absurd rfl (unreleased straps)
  | state | alert | report =>
    cases run
    exact h.completeAbsorption _ fun _ _ h => h
  | demand =>
    cases run
    exact h.completeAbsorption _ fun p t h => h.of_view (routeDemand_gridView t p)
  | config =>
    cases run
    refine h.completeAbsorption _ fun p t h => ?_
    unfold routeConfig
    repeat' split
    · exact h.configItem _ _
    all_goals exact h
  | query =>
    cases run
    exact h.completeAbsorption _ fun p t h => h.of_view (routeQuery_gridView t p)
  | stop =>
    cases run
    exact h.completeAbsorption _ fun p _ h => routeOrder_gridOk h (fun _ t h => h.of_view t.receiveStop_gridView) p
  | release =>
    cases run
    exact h.completeAbsorption _ fun p _ h => routeOrder_gridOk h (fun _ _ h => h.judgeRelease) p
  | clearTrip line =>
    cases run
    exact h.completeAbsorption _ fun p _ h => routeOrder_gridOk h
      (fun _ t h => h.of_view ((t.showFaultLine line).judgeClearTrip_gridView.trans rfl)) p
  | acknowledge =>
    cases run
    exact h.completeAbsorption _ fun p _ h => routeOrder_gridOk h (fun a _ h => h.judgeAcknowledge a) p
  | restart straps =>
    cases run
    exact h.completeAbsorption _ fun p _ h => routeOrder_gridOk h (fun _ _ h => h.judgeRestart straps) p
  | lock line =>
    cases run
    exact h.completeAbsorption _ fun p _ h => routeOrder_gridOk h
      (fun _ t h => State.GridOk.judgeLock (s := t.showFaultLine line) (h.of_view rfl)) p
  | controlPeriodExpiry first =>
    simp only [exec, execControlPeriodExpiry] at run
    have loaded : s.reloadControl.GridOk free := h.of_view rfl
    split at run <;> obtain rfl := Host.Outcome.next.inj run
    · split
      · exact State.GridOk.othersExpiry (loaded.of_view (State.governorExpiry_gridView _))
      · exact loaded.othersExpiry.of_view (State.governorExpiry_gridView _)
    · exact h
  | controlUpdateCompletion =>
    simp only [exec, execControlUpdateCompletion] at run
    repeat' split at run
    all_goals obtain rfl := Host.Outcome.next.inj run
    · exact h.completeDiscarded
    · exact h.completeUpdate _
    all_goals exact h
  | conversionCompletion raw =>
    simp only [exec, execConversionCompletion] at run
    repeat' split at run
    all_goals obtain rfl := Host.Outcome.next.inj run
    · exact h.completeConversion _ _
    all_goals exact h
  | superframeCompletion running =>
    simp only [exec, execSuperframeCompletion] at run
    split at run <;> obtain rfl := Host.Outcome.next.inj run
    · exact h
    · exact h.completeSuperframe locked running
  | spinUpCompletion running =>
    simp only [exec, execSpinUpCompletion] at run
    split at run <;> obtain rfl := Host.Outcome.next.inj run
    · exact h.completeSuperframe locked running
    · exact h
  | selfCheckCompletion a b line =>
    simp only [exec, execSelfCheckCompletion] at run
    repeat' split at run
    all_goals obtain rfl := Host.Outcome.next.inj run
    · exact h.of_view ((State.leaveListen_gridView _).trans rfl)
    all_goals exact h.of_view rfl
  | lineHeldEnd | collision | absorption | transmissionCompletion | lineHeldEntry | taggedPost =>
    simp only [exec, execLineHeldEnd, execCollision, execAbsorption, execTransmissionCompletion, execLineHeldEntry,
      execTaggedPost] at run
    repeat' split at run
    all_goals obtain rfl := Host.Outcome.next.inj run
    all_goals exact h.of_view rfl
  | _ =>
    simp only [exec, execPostArrival, execLineHeldEpisode, execPostTransmission, execStartSymbol, execPostPeriodExpiry,
      execListenIntervalEnd, execStopLineAsserted, execStopLineInactive, execPowerStageFault] at run
    repeat' split at run
    all_goals obtain rfl := Host.Outcome.next.inj run
    all_goals exact h.of_view (by simp [State.gridView, State.expirePostPeriod])

theorem State.released_gridOk (s : State) (straps : Fin 8) (free : Prop) : (s.released straps).GridOk free :=
  have ⟨_, _, _, _, _, _, _, winding, _, _, grid, _⟩ := resetMeetsInvariants
  have ⟨elapsed, duty, established, target, openCounter, latched, offer, unlocked, link, _, winding⟩ :=
    State.gridInv_iff.1 ⟨grid, winding⟩
  ⟨elapsed, duty, established, target, openCounter, latched, offer, unlocked, link, .inr rfl, winding⟩

theorem execResetRelease_gridView {straps : Fin 8} (run : execResetRelease straps s = .next t) :
    t = s ∨ t.gridView = (s.released straps).gridView := by
  unfold execResetRelease at run
  dsimp only at run
  split at run
  · right
    split at run <;> obtain rfl := Host.Outcome.next.inj run
    · split <;> simp [State.stopLineAsserted, State.gridView]
    · rfl
  · exact .inl (Host.Outcome.next.inj run).symm

theorem execColdReset_gridOk (h : s.GridOk free) (run : execColdReset s = .next t) : t.GridOk True := by
  obtain rfl := Host.Outcome.next.inj run
  have reset (u : State) (h : u.GridOk free) : State.GridOk True { u.abandonOperations with
      pins := { u.abandonOperations.pins with resetLine := true }
      station := { u.abandonOperations.station with state := .reset } } :=
    { h with elapsed := Nat.zero_le _, staged := .inl trivial }
  dsimp only
  split
  · exact reset _ (h.of_view (by simp [State.gridView]))
  · exact reset _ h

theorem State.GridOk.passBitTime (h : s.GridOk free) : s.passBitTime.GridOk free := by
  unfold State.passBitTime
  split
  · exact h
  · have ticked : (s.idleFor 1).GridOk free := h.of_view (by simp [State.gridView])
    exact { ticked with elapsed := countTo_le _ _ }

end

end Sys2Proof.Machine

open Sys2Proof Sys2Proof.Machine

/-- Settles O13: outside the release no command leads out of RESET, so that what RESET allows of the stages is not
carried on. -/
theorem stepKeepsGridAndWinding : Obligations.StepKeepsGridAndWinding := by
  rintro s t ⟨grid, winding, record⟩ run
  have h := State.gridInv_iff.1 ⟨grid, winding⟩
  have locked (running : s.station.state = .run) : s.station.locked = true := by
    by_contra unlocked
    have := record.2 (by simpa using unlocked)
    simp [running] at this
  refine State.gridInv_iff.2 ?_
  cases queue : s.pending with
  | nil =>
    rw [step_of_empty queue] at run
    obtain rfl := Host.Outcome.next.inj run
    simpa using h.passBitTime
  | cons c rest =>
    rw [step_of_pending queue] at run
    have start : (s.withPending rest).GridOk (s.station.state = .reset) := h.of_view rfl
    by_cases cold : c = .coldReset
    · subst cold
      have reset : t.station.state = .reset := by
        cases run
        rfl
      exact (execColdReset_gridOk start run).weaken fun _ => reset
    · by_cases release : ∃ straps, c = .resetRelease straps
      · obtain ⟨straps, rfl⟩ := release
        obtain rfl | same := execResetRelease_gridView run
        · exact start
        · exact (State.released_gridOk _ straps _).of_view same
      · refine (exec_gridOk start locked run cold fun straps eq => release ⟨straps, eq⟩).weaken fun reset => ?_
        by_contra left
        exact release ((isolationAndResetAreLeftOnlySo c _ t run).2 reset left)

end

section
/-! SUPPORT. The completion of an absorption, command by command: where a post is routed, and what follows it. -/

namespace Sys2Proof.Machine

/-! ### Routes -/

/-- The routing of the posts that a command is about (R28, R29). -/
def routeOf : Instr → Post → State → State
  | .demand => routeDemand
  | .config => routeConfig
  | .query => routeQuery
  | .stop => routeOrder fun _ t => t.receiveStop
  | .release => routeOrder fun _ t => t.judgeRelease
  | .clearTrip line => routeOrder fun _ t => (t.showFaultLine line).judgeClearTrip
  | .acknowledge => routeOrder fun a t => t.judgeAcknowledge a
  | .restart straps => routeOrder fun _ t => t.judgeRestart straps
  | .lock line => routeOrder fun _ t => (t.showFaultLine line).judgeLock
  | _ => routeNone

/-- The state after the acceptance of a post in its sender's entry, before it is routed (R26, R27). -/
def State.accepted (s : State) (p : Post) : State := s.freeAbsorber.acceptPost p

section
variable {c : Instr} {s : State} {p : Post}

theorem State.accepted_eq (s : State) (p : Post) : s.accepted p = { s with peers := (s.accepted p).peers } := rfl

/-- A command that is about an untagged post of the absorber is the completion of its absorption, routed as its kind
says. -/
theorem exec_of_about (about : c.about p.body = true) : ∃ select : Body → Bool, select p.body = true ∧
    exec c s = .next (s.completeAbsorption select (routeOf c)) := by
  obtain ⟨source, seq, body⟩ := p
  dsimp only at about
  cases c with
  | state | alert | report | demand | config | query =>
    refine ⟨_, ?_, rfl⟩
    cases body <;> first | rfl | cases about
  | stop | release | clearTrip | acknowledge | restart | lock =>
    refine ⟨_, ?_, rfl⟩
    cases body with
    | order k => cases k <;> first | rfl | cases about
    | _ => cases about
  | _ => cases body <;> cases about

theorem exec_of_accepting (about : c.about p.body = true) (h : s.Accepting p) :
    exec c s = .next ((routeOf c p (s.accepted p)).afterAcceptance p.source) := by
  obtain ⟨select, selected, run⟩ := exec_of_about about
  rw [run, State.completeAbsorption_of_accepting h selected]
  rfl

/-- What follows the routing of an accepted post (R31, R67), for a route that leaves the entries alone and the station
live. -/
theorem exec_follows (about : c.about p.body = true) (h : s.Accepting p) {f : State → State}
    (routed : routeOf c p (s.accepted p) = f (s.accepted p)) (peers : (f (s.accepted p)).peers = (s.accepted p).peers)
    (live : (f (s.accepted p)).station.state.live = true) :
    ∃ t, exec c s = .next t ∧ t.geo = (if p.source = .s0 then t.geometry else (f (s.accepted p)).geo) ∧
      State.ReportFollows (f { s with peers := t.peers }) t := by
  refine ⟨_, exec_of_accepting about h, ?_⟩
  rw [routed]
  have same : ((f (s.accepted p)).afterAcceptance p.source).peers = (s.accepted p).peers := by
    rw [← peers]
    unfold State.afterAcceptance
    dsimp only
    split <;> simp
  rw [same, ← State.accepted_eq]
  by_cases host : p.source = .s0
  · rw [host, if_pos rfl]
    exact State.afterAcceptance_host live
  · rw [if_neg host]
    have after : (f (s.accepted p)).afterAcceptance p.source = (f (s.accepted p)).report31 := by
      simp [State.afterAcceptance, host]
    rw [after]
    exact ⟨by simp, State.report31_reportFollows live _⟩

/-- As `exec_follows`, for a post of the host. -/
theorem exec_follows_host (about : c.about p.body = true) (h : s.Accepting p) (host : p.source = .s0)
    {f : State → State} (routed : routeOf c p (s.accepted p) = f (s.accepted p))
    (peers : (f (s.accepted p)).peers = (s.accepted p).peers) (live : (f (s.accepted p)).station.state.live = true) :
    ∃ t, exec c s = .next t ∧ t.geo = t.geometry ∧ State.ReportFollows (f { s with peers := t.peers }) t := by
  obtain ⟨t, run, geo, follows⟩ := exec_follows about h routed peers live
  exact ⟨t, run, by rwa [if_pos host] at geo, follows⟩

/-- An order for this station that its sender may give goes to its owner (R28). -/
theorem routeOrder_of_orderFor {k : OrderKind} {a : Nat} (order : p.OrderFor s k a) (given : k = .stop ∨ p.source = .s0)
    (owner : Nat → State → State) : routeOrder owner p (s.accepted p) = owner a (s.accepted p) := by
  have number : (s.accepted p).station.number = s.station.number := rfl
  obtain body | body := order <;> simp [routeOrder, body, number, given]

end

/-! ### Entries that are not accepted (R25, R26, R35 to R37) -/

section
variable {c : Instr} {s : State} {p : Post}

theorem exec_of_good (about : c.about p.body = true) (live : s.station.state.live = true)
    (absorbed : s.peers.absorber = some (.good p)) : exec c s = .next (s.absorb p (routeOf c)) := by
  obtain ⟨select, selected, run⟩ := exec_of_about about
  rw [run]
  simp [State.completeAbsorption, absorbed, live, selected]

end

end Sys2Proof.Machine

open Sys2Proof Sys2Proof.Machine

/-- Settles O23. -/
theorem entriesNotAccepted : Obligations.EntriesNotAccepted := by
  refine fun s live => ⟨fun held => ?_, fun l tagged => ?_, fun l tagged => ?_, fun c p about absorbed => ?_⟩
  · simp [exec, execLineHeldEntry, held, live, State.freeAbsorber]
  · simp [exec, execTaggedPost, tagged, live, State.freeAbsorber, State.bump]
  · simp [exec, execTaggedPost, tagged, live, State.freeAbsorber, State.bump]
  · rw [exec_of_good about live absorbed]
    refine ⟨fun foreign known seq kind => ?_, fun own left => ?_, fun own listening => ?_⟩
    · simp [State.absorb, foreign, PeerEntry.isDuplicate, known, seq, kind, State.freeAbsorber, State.bump]
    · simp [State.absorb, own, State.hearOwnNumber, left, State.freeAbsorber, State.bump]
    · have heard : s.absorb p (routeOf c) = (s.freeAbsorber.bump .duplicateOwnNumber).isolate .duplicate := by
        simp [State.absorb, own, State.hearOwnNumber, State.freeAbsorber, listening]
      rw [heard]
      exact ⟨_, rfl, rfl, rfl, rfl, rfl, rfl, rfl, rfl, rfl, rfl, rfl, rfl, rfl, rfl, rfl, rfl, rfl⟩

end

section
/-! SUPPORT. Accepted posts one by one: what each route does to the accepted state, in equations. -/

namespace Sys2Proof.Machine

/-! ### Owners of orders (R28) -/

/-- Where an order of kind `k` for this station goes: to the owner that its command names (R28). -/
def ownerOf : Instr → Nat → State → State
  | .stop => fun _ t => t.receiveStop
  | .release => fun _ t => t.judgeRelease
  | .clearTrip line => fun _ t => (t.showFaultLine line).judgeClearTrip
  | .acknowledge => fun a t => t.judgeAcknowledge a
  | .restart straps => fun _ t => t.judgeRestart straps
  | .lock line => fun _ t => (t.showFaultLine line).judgeLock
  | _ => fun _ t => t

theorem routeOf_of_order {c : Instr} {k : OrderKind} {n a : Nat} (about : c.about (.order k n a) = true) :
    routeOf c = routeOrder (ownerOf c) := by
  cases c <;> first | rfl | (cases k <;> cases about)

section
variable {c : Instr} {s : State} {p : Post}

/-! ### Posts that go no further (R28, R29) -/

theorem routeOrder_of_goesNoFurther {k : OrderKind} {n a : Nat} (body : p.body = .order k n a) (h : p.GoesNoFurther s)
    (owner : Nat → State → State) : routeOrder owner p (s.accepted p) = s.accepted p := by
  have number : (s.accepted p).station.number = s.station.number := rfl
  have far : n ≠ s.station.number ∧ n ≠ targetAll := by
    simpa [Post.GoesNoFurther, body, Body.kind, Body.target] using h
  simp [routeOrder, body, number, far]

theorem routeOf_of_goesNoFurther (about : c.about p.body = true) (h : p.GoesNoFurther s) :
    routeOf c p (s.accepted p) = s.accepted p := by
  have number : (s.accepted p).station.number = s.station.number := rfl
  cases body : p.body with
  | state | alert | report =>
    rw [body] at about
    cases c <;> first | rfl | cases about
  | demand r =>
    rw [body] at about
    have other : p.source ≠ .s0 := by simpa [Post.GoesNoFurther, body, Body.kind, Body.target] using h
    cases c <;> try cases about
    simp [routeOf, routeDemand, body, other]
  | config n item value =>
    rw [body] at about
    have far : p.source ≠ .s0 ∨ n ≠ s.station.number ∧ n ≠ targetAll := by
      simpa [Post.GoesNoFurther, body, Body.kind, Body.target] using h
    cases c <;> try cases about
    simp only [routeOf, routeConfig, body, number]
    exact if_neg fun both => far.elim (· both.1) (·.1 both.2)
  | query n page index =>
    rw [body] at about
    have far : p.source ≠ .s0 ∨ n ≠ s.station.number ∧ n ≠ targetAll := by
      simpa [Post.GoesNoFurther, body, Body.kind, Body.target] using h
    cases c <;> try cases about
    simp only [routeOf, routeQuery, body, number]
    exact if_neg fun both => far.elim (· both.1) (·.1 both.2)
  | order k n a =>
    rw [body] at about
    rw [routeOf_of_order about]
    exact routeOrder_of_goesNoFurther body h _

/-! ### Changes of station state, in equations -/

/-- Outside RUN a trip leaves output and request alone (R174). -/
theorem State.trip_of_left (left : s.station.state ≠ .run) (cause : TripCause) : s.trip cause = State.alert { s with
    station := { s.station with state := .tripped }
    gov := { s.gov with mode := .coast, update := s.gov.update.map fun u => { u with discarded := true } }
    prot := { s.prot with firstCause := some cause, causes := [cause], heldReason := false } } .trip [cause.code] := by
  simp [State.trip, left]

theorem State.receiveCause_of_running (cause : TripCause)
    (state : s.station.state = .ready ∨ s.station.state = .run ∨ s.station.state = .held) :
    s.receiveCause cause = (s.bump cause.counter).trip cause := by
  unfold State.receiveCause
  rcases state with eq | eq | eq <;> simp [eq]

/-- Entry to READY: the fault line trips the station there (R173). -/
theorem State.enterReady_asserted (asserted : s.pins.faultLine = true) : s.enterReady = State.alert { s with
    station := { s.station with state := .tripped }
    gov := { s.gov with mode := .coast, update := s.gov.update.map fun u => { u with discarded := true } }
    prot := { s.prot with firstCause := some .overcurrent, causes := [.overcurrent], heldReason := false }
    counters := s.counters.bump .overcurrentTrips } .trip [1] := by
  unfold State.enterReady
  rw [if_pos asserted, State.receiveCause_of_running _ (.inl rfl), State.trip_of_left (by simp)]
  rfl

theorem State.enterReady_inactive (inactive : s.pins.faultLine = false) :
    s.enterReady = { s with station := { s.station with state := .ready } } := by
  simp [State.enterReady, inactive]

end

/-! ### A STOP (R168) -/

theorem insertClass_stop {l : List ProtClass} (fresh : .stop ∉ l) : insertClass .stop l = .stop :: l := by
  cases l with
  | nil => rfl
  | cons d rest =>
    have other : ProtClass.stop ≠ d := by simp_all
    have below : ProtClass.stop.level < d.level := by
      cases d <;> first | exact absurd rfl other | decide
    simp [insertClass, other, below]

section
variable {s : State}

theorem State.take_stop (fresh : .stop ∉ s.prot.pendingSet) : s.take .stop = (State.alert { s with prot := { s.prot with
    stack := ⟨.stop, s.bus.seq, s.gov.uRef, s.gov.output, 0, false, []⟩ :: s.prot.stack } } .stopTaken []).bump
      .stopTakes := by
  simp only [State.take, if_pos, List.erase_of_not_mem fresh]
  rfl

theorem State.receiveStop_taken (live : s.station.state.live = true) (off : s.prot.onStack .stop = false)
    (undeferred : .stop ∉ s.prot.deferredSet) (free : s.station.state ≠ .run ∨ s.gov.update = none) :
    s.receiveStop = s.take .stop := by
  have idle : (s.station.state == .run && s.inFlight) = false := by
    obtain left | done := free
    · simp [left]
    · simp [State.inFlight, done]
  simp [State.receiveStop, live, off, undeferred, idle]

theorem State.receiveStop_deferred (off : s.prot.onStack .stop = false)
    (undeferred : .stop ∉ s.prot.deferredSet) (running : s.station.state = .run) (flying : s.gov.update ≠ none) :
    s.receiveStop = { s with prot := { s.prot with deferredSet := .stop :: s.prot.deferredSet } } := by
  have live : s.station.state.live = true := by rw [running]; rfl
  have inFlight : s.inFlight = true := State.inFlight_iff.2 flying
  simp [State.receiveStop, live, off, undeferred, inFlight, insertClass_stop undeferred, beq_iff_eq.2 running]

theorem State.receiveStop_again (live : s.station.state.live = true)
    (known : s.prot.onStack .stop = true ∨ .stop ∈ s.prot.deferredSet) : s.receiveStop = s.bump .stopTakes := by
  have seen : (s.prot.onStack .stop || s.prot.deferredSet.contains .stop) = true := by simpa using known
  simp only [State.receiveStop, live, seen, Bool.not_true, Bool.false_eq_true, if_false, if_true]

end

/-! ### Orders of the host -/

section
variable {c : Instr} {s : State} {p : Post} {k : OrderKind} {a : Nat}

theorem Post.OrderFor.body (order : p.OrderFor s k a) : ∃ n, p.body = .order k n a := order.elim (⟨_, ·⟩) (⟨_, ·⟩)

/-- An order for this station that its sender may give is judged by its owner, and a report follows (R28, R31). -/
theorem exec_order_follows (about : c.about p.body = true) (h : s.Accepting p) (order : p.OrderFor s k a)
    (given : k = .stop ∨ p.source = .s0) (peers : (ownerOf c a (s.accepted p)).peers = (s.accepted p).peers)
    (live : (ownerOf c a (s.accepted p)).station.state.live = true) :
    ∃ t, exec c s = .next t ∧ t.geo = (if p.source = .s0 then t.geometry else (ownerOf c a (s.accepted p)).geo) ∧
      State.ReportFollows (ownerOf c a { s with peers := t.peers }) t := by
  obtain ⟨n, body⟩ := order.body
  refine exec_follows about h ?_ peers live
  rw [routeOf_of_order (c := c) (body ▸ about), routeOrder_of_orderFor order given]

theorem exec_order_follows_host (about : c.about p.body = true) (h : s.Accepting p) (host : p.source = .s0)
    (order : p.OrderFor s k a) (peers : (ownerOf c a (s.accepted p)).peers = (s.accepted p).peers)
    (live : (ownerOf c a (s.accepted p)).station.state.live = true) :
    ∃ t, exec c s = .next t ∧ t.geo = t.geometry ∧ State.ReportFollows (ownerOf c a { s with peers := t.peers }) t := by
  obtain ⟨t, run, geo, follows⟩ := exec_order_follows about h order (.inr host) peers live
  exact ⟨t, run, by rwa [if_pos host] at geo, follows⟩

end

/-! ### Judgements of CLEAR_TRIP and LOCK (R48, R176) -/

section
variable {s : State}

theorem State.causesGone_iff : s.prot.causes.all s.causeGone = true ↔
    (.overcurrent ∈ s.prot.causes → s.pins.faultLine = false) ∧
      (.linkHard ∈ s.prot.causes → s.meas.channels.linkVoltage.value < 2000) := by
  rw [List.all_eq_true]
  constructor
  · intro h
    exact ⟨fun mem => (Bool.not_eq_true' _ ▸ h _ mem :), fun mem => of_decide_eq_true (h _ mem)⟩
  · rintro ⟨asserted, high⟩ cause mem
    cases cause with
    | overcurrent => simp [State.causeGone, asserted mem]
    | linkHard => exact decide_eq_true (high mem)
    | gridOpen => rfl

theorem State.judgeClearTrip_taken (tripped : s.station.state = .tripped) (standing : s.gov.uRef.natAbs ≤ 30)
    (line : .overcurrent ∈ s.prot.causes → s.pins.faultLine = false)
    (link : .linkHard ∈ s.prot.causes → s.meas.channels.linkVoltage.value < 2000) :
    s.judgeClearTrip = State.enterReady { s with prot := { s.prot with firstCause := none, causes := [] } } :=
  if_pos ⟨tripped, decide_eq_true standing, State.causesGone_iff.2 ⟨line, link⟩⟩

theorem State.judgeClearTrip_refused (h : s.station.state ≠ .tripped ∨ 30 < s.gov.uRef.natAbs ∨
    (.overcurrent ∈ s.prot.causes ∧ s.pins.faultLine = true) ∨
    (.linkHard ∈ s.prot.causes ∧ 2000 ≤ s.meas.channels.linkVoltage.value)) : s.judgeClearTrip = s.refuseOrder := by
  refine if_neg fun ⟨tripped, standing, gone⟩ => ?_
  obtain ⟨line, link⟩ := State.causesGone_iff.1 gone
  obtain left | moving | ⟨mem, asserted⟩ | ⟨mem, high⟩ := h
  · exact left tripped
  · exact absurd (of_decide_eq_true standing) (by omega)
  · exact absurd (line mem) (by simp [asserted])
  · exact absurd (link mem) (by omega)

theorem State.judgeLock_taken (commission : s.station.state = .commission)
    (period : s.station.record.controlPeriod ≤ s.station.record.postPeriod)
    (rampRule : s.station.record.rampUp ≤ s.station.record.rampDown) :
    s.judgeLock = State.enterReady { s with station := { s.station with locked := true } } := by
  have rules : s.station.record.failedRule = none := by
    simp [CommRecord.failedRule, not_lt.2 period, not_lt.2 rampRule]
  simp [State.judgeLock, commission, rules]

theorem State.judgeLock_failed (commission : s.station.state = .commission) {n : Nat}
    (failed : s.station.record.failedRule = some n) : s.judgeLock = s.alert .configRefused [n] := by
  simp [State.judgeLock, commission, failed]

theorem State.judgeLock_refused (other : s.station.state ≠ .commission) : s.judgeLock = s.refuseOrder := if_neg other

end

/-! ### Liveness -/

section
variable {s : State}

theorem State.enterReady_live : s.enterReady.station.state.live = true := by
  unfold State.enterReady
  dsimp only
  split
  · exact State.receiveCause_live _ rfl
  · rfl

theorem State.judgeClearTrip_live (live : s.station.state.live = true) : s.judgeClearTrip.station.state.live = true := by
  unfold State.judgeClearTrip
  split
  · exact State.enterReady_live
  · exact live

theorem State.judgeLock_live (live : s.station.state.live = true) : s.judgeLock.station.state.live = true := by
  unfold State.judgeLock
  repeat' split
  · simpa using live
  · exact State.enterReady_live
  · exact live

theorem State.demandNotices_live (live : s.station.state.live = true) (d : Direction) :
    (s.demandNoticeStation d).demandNoticeProtection.station.state.live = true := by
  unfold State.demandNoticeProtection
  split
  · simp [State.enterRun, StationState.live]
  · unfold State.demandNoticeStation
    dsimp only
    split
    · rfl
    · exact live

end

end Sys2Proof.Machine

open Sys2Proof Sys2Proof.Machine

/-- Settles O25. -/
theorem postsThatGoNoFurther : Obligations.PostsThatGoNoFurther := fun _ _ _ about accepting far =>
  exec_follows (f := id) about accepting (routeOf_of_goesNoFurther about far) rfl accepting.1

/-- Settles O27: the two notices of a DEMAND, evaluated in each of the three cases. -/
theorem demandStartsAndResumes : Obligations.DemandStartsAndResumes := by
  rintro s p r ⟨accepting, host, body⟩
  have about : Instr.demand.about p.body = true := by rw [body]; rfl
  obtain ⟨t, run, geo, follows⟩ := exec_follows_host
    (f := fun t => ((t.handHold r.hold).demandNoticeStation r.direction).demandNoticeProtection) about accepting host
    (by simp [routeOf, routeDemand, body, host]) (by simp) (State.demandNotices_live (by exact accepting.1) _)
  refine ⟨fun ready moving => ?_, fun held free => ?_, fun still stay => ?_⟩ <;> refine ⟨t, run, geo, ?_⟩
  · simpa [State.handHold, State.demandNoticeStation, State.demandNoticeProtection, ready, moving, State.enterRun]
      using follows
  · simpa [State.handHold, State.demandNoticeStation, State.demandNoticeProtection, held, free, State.enterRun]
      using follows
  · simpa [State.handHold, State.demandNoticeStation, State.demandNoticeProtection, still, stay] using follows

/-- Settles O29. -/
theorem queryIsAnswered : Obligations.QueryIsAnswered := by
  rintro s p page index ⟨accepting, host, body⟩
  have about : Instr.query.about p.body = true := by rw [body]; rfl
  exact exec_follows_host (f := fun t => t.answerQuery page index) about accepting host
    (by simp [routeOf, routeQuery, body, host, State.accepted]) rfl accepting.1

/-- Settles O31. -/
theorem ordersOfOthersAreRefused : Obligations.OrdersOfOthersAreRefused := by
  intro c s p k a about accepting order kind other
  obtain ⟨n, body⟩ := order.body
  have number : (s.accepted p).station.number = s.station.number := rfl
  have refused : routeOf c p (s.accepted p) = (s.accepted p).refuseOrder := by
    rw [routeOf_of_order (c := c) (body ▸ about)]
    obtain body | body := order <;> simp [routeOrder, body, number, kind, other]
  obtain ⟨t, run, geo, follows⟩ := exec_follows about accepting refused rfl accepting.1
  exact ⟨t, run, by rwa [if_neg other] at geo, follows⟩

/-- Settles O35: in TRIPPED, standing and with every cause gone, an entry to READY without latch and causes; a refusal
else. -/
theorem clearTripOrders : Obligations.ClearTripOrders := by
  intro line s p a accepting host order
  obtain ⟨n, body⟩ := order.body
  have about : (Instr.clearTrip line).about p.body = true := by rw [body]; rfl
  obtain ⟨t, run, geo, follows⟩ := exec_order_follows_host about accepting host order
    (by simp [ownerOf]) (State.judgeClearTrip_live accepting.1)
  refine ⟨fun tripped standing current link => ⟨fun inactive => ?_, fun asserted => ?_⟩, fun refused => ?_⟩ <;>
    refine ⟨t, run, geo, ?_⟩ <;> simp only [ownerOf] at follows
  · rw [State.judgeClearTrip_taken (by exact tripped) (by exact standing) (by exact current) (by exact link),
      State.enterReady_inactive (by exact inactive), inactive] at follows
    exact follows
  · rw [State.judgeClearTrip_taken (by exact tripped) (by exact standing) (by exact current) (by exact link),
      State.enterReady_asserted (by exact asserted), asserted] at follows
    rw [← tripped] at follows
    exact follows
  · rw [State.judgeClearTrip_refused (by exact refused)] at follows
    exact follows

/-- Settles O37: in COMMISSION the first rule that fails, or an entry to READY with the record locked; a refusal
else. -/
theorem lockOrders : Obligations.LockOrders := by
  intro line s p a accepting host order
  obtain ⟨n, body⟩ := order.body
  have about : (Instr.lock line).about p.body = true := by rw [body]; rfl
  obtain ⟨t, run, geo, follows⟩ := exec_order_follows_host about accepting host order
    (by simp [ownerOf]) (State.judgeLock_live accepting.1)
  refine ⟨fun commission => ⟨fun period rampRule => ⟨fun inactive => ?_, fun asserted => ?_⟩, fun n rule => ?_⟩,
    fun other => ?_⟩ <;> refine ⟨t, run, geo, ?_⟩ <;> simp only [ownerOf] at follows
  · rw [State.judgeLock_taken (by exact commission) (by exact period) (by exact rampRule),
      State.enterReady_inactive (by exact inactive), inactive] at follows
    exact follows
  · rw [State.judgeLock_taken (by exact commission) (by exact period) (by exact rampRule),
      State.enterReady_asserted (by exact asserted), asserted] at follows
    exact follows
  · have failed : s.station.record.failedRule = some n := by
      obtain ⟨period, rfl⟩ | ⟨period, rampRule, rfl⟩ := rule
      · simp [CommRecord.failedRule, period]
      · simp [CommRecord.failedRule, not_lt.2 period, rampRule]
    rw [State.judgeLock_failed (by exact commission) (by exact failed)] at follows
    exact follows
  · rw [State.judgeLock_refused (by exact other)] at follows
    exact follows

end

section
/-! SUPPORT. Pops (R63, R165): one context after the other, what a pop leaves of the stack, and the orders that pop. -/

namespace Sys2Proof.Machine

/-! ### One context -/

section
variable (s : State)

theorem State.alert_withProt (p : Protection) (k : AlertKind) (args : List Nat) :
    State.alert { s with prot := p } k args = { s.alert k args with prot := p } := by
  unfold State.alert State.offerUrgent
  dsimp only
  (repeat' split) <;> rfl

theorem State.alert_withMeas (m : Measurement) (p : Protection) (k : AlertKind) (args : List Nat) :
    State.alert { s with meas := m, prot := p } k args = { s.alert k args with meas := m, prot := p } := by
  unfold State.alert State.offerUrgent
  dsimp only
  (repeat' split) <;> rfl

/-- The return of channels writes to the measurement unit alone, and reads nothing else (R63). -/
theorem returnChannels_eq (l : List Channel) {s t : State} (same : t.meas = s.meas) :
    l.foldl State.returnChannel t = { t with meas := (l.foldl State.returnChannel s).meas } := by
  induction l generalizing s t with
  | nil => simp [← same]
  | cons c rest ih =>
    rw [List.foldl_cons, List.foldl_cons, ih (s := s.returnChannel c) (by simp [State.returnChannel, same])]
    rfl

variable {s} {x : Context} {rest : List Context}

theorem State.afterPop_of_other (other : x.cls ≠ .sensorFault) : s.afterPop x = s.alert .contextCleared [x.cls.level] := by
  simp [State.afterPop, other]

theorem State.afterPop_of_sensorFault (own : x.cls = .sensorFault) {m : Measurement}
    (m_eq : m = (x.channels.foldl State.returnChannel s).meas) :
    s.afterPop x = State.alert { s with
      meas := m
      prot := { s.prot with
        pendingSet := if m.faultOrder = [] then s.prot.pendingSet.erase .sensorFault else s.prot.pendingSet } }
      .contextCleared [6] := by
  have level : x.cls.level = 6 := by rw [own]; rfl
  have returned : x.channels.foldl State.returnChannel (s.alert .contextCleared [6]) =
      { s.alert .contextCleared [6] with meas := m } := by
    rw [returnChannels_eq x.channels (s := s) (by simp), ← m_eq]
  rw [State.alert_withMeas]
  unfold State.afterPop
  rw [if_pos own, level, returned]
  dsimp only
  split <;> simp [State.withdraw]

theorem State.pop_of_ready (h : s.prot.stack = x :: rest) (ready : x.clearReady = true) {m : Measurement}
    {q : List ProtClass} (after : ∀ stack, State.afterPop { s with prot := { s.prot with stack := stack } } x =
      { s.alert .contextCleared [x.cls.level] with meas := m, prot := { s.prot with stack := stack, pendingSet := q } }) :
    s.pop = State.pop { s.alert .contextCleared [x.cls.level] with
      meas := m, prot := { s.prot with stack := rest, pendingSet := q } } := by
  have popped : s.dropReady = { s with prot := { s.prot with stack := rest.dropWhile Context.clearReady } } := by
    simp [State.dropReady, h, ready]
  rw [State.pop_eq, State.pop_eq, h, popped, List.takeWhile_cons_of_pos ready, List.foldl_cons, after]
  rfl

theorem State.pop_of_waiting (h : s.prot.stack = x :: rest) (waiting : x.clearReady = false) :
    s.pop = s.promotePending := by
  have same : s.dropReady = s := by
    unfold State.dropReady
    rw [h, List.dropWhile_cons_of_neg (by simp [waiting]), ← h]
  rw [State.pop_eq, same, h, List.takeWhile_cons_of_neg (by simp [waiting])]
  rfl

theorem State.promotePending_of_idle_below (idle : s.gov.update = none) {c : ProtClass} {more : List ProtClass}
    (lowest : s.prot.pendingSet = c :: more) (below : c.level < s.prot.topLevel) : s.promotePending = s.take c := by
  simp [State.promotePending, State.inFlight, idle, lowest, lowestBelow, below]

theorem State.promotePending_of_idle_above (idle : s.gov.update = none)
    (above : ∀ c, s.prot.pendingSet.head? = some c → s.prot.topLevel ≤ c.level) : s.promotePending = s := by
  have none : lowestBelow s.prot.topLevel s.prot.pendingSet = none := by
    unfold lowestBelow
    split
    · rfl
    next c _ eq => exact if_neg (not_lt.2 (above c (by rw [eq]; rfl)))
  simp [State.promotePending, State.inFlight, idle, none]

theorem State.promotePending_of_flying (flying : s.gov.update ≠ none) :
    (∀ d, d ∈ s.promotePending.prot.deferredSet ↔
      d ∈ s.prot.deferredSet ∨ (d ∈ s.prot.pendingSet ∧ d.level < s.prot.topLevel)) ∧
    s.promotePending = { s with prot := { s.prot with
      pendingSet := s.prot.pendingSet.filter (fun d => decide (s.prot.topLevel ≤ d.level))
      deferredSet := s.promotePending.prot.deferredSet } } := by
  have kept : (fun d : ProtClass => !decide (d.level < s.prot.topLevel)) = fun d => decide (s.prot.topLevel ≤ d.level) := by
    funext d
    rw [← decide_not, decide_eq_decide, not_lt]
  have inFlight : s.inFlight = true := State.inFlight_iff.2 flying
  have eq : s.promotePending = { s with prot := { s.prot with
      pendingSet := s.prot.pendingSet.filter (fun d => decide (s.prot.topLevel ≤ d.level))
      deferredSet := (s.prot.pendingSet.filter (fun d => decide (d.level < s.prot.topLevel))).foldl
        (fun d c => insertClass c d) s.prot.deferredSet } } := by
    rw [State.promotePending, if_pos inFlight, kept]
  rw [eq]
  refine ⟨fun d => ?_, rfl⟩
  dsimp only
  rw [mem_insertClasses]
  simp [or_comm]

end

end Sys2Proof.Machine

open Sys2Proof Sys2Proof.Machine

/-- Settles O39: the pop unfolded at its first context, in each of the cases of R165. -/
theorem popsAndPendingTakes : Obligations.PopsAndPendingTakes := by
  refine ⟨fun s x rest stack => ⟨fun ready other => ?_, fun ready own => ?_, fun waiting idle => ?_, fun waiting flying => ?_⟩,
    fun s k => ⟨rfl, rfl, fun j => ?_⟩⟩
  · rw [State.alert_withProt]
    have popped := State.pop_of_ready (m := s.meas) (q := s.prot.pendingSet) stack ready fun stack => by
      rw [State.afterPop_of_other other, State.alert_withProt, ← State.alert_meas s .contextCleared [x.cls.level]]
    rw [popped, ← State.alert_meas s .contextCleared [x.cls.level]]
  · dsimp only
    rw [State.alert_withMeas]
    have level : x.cls.level = 6 := by rw [own]; rfl
    rw [← level]
    refine State.pop_of_ready stack ready fun stack => ?_
    have same : (x.channels.foldl State.returnChannel { s with prot := { s.prot with stack := stack } }).meas =
        (x.channels.foldl State.returnChannel s).meas := by
      rw [returnChannels_eq x.channels (s := s) (t := { s with prot := { s.prot with stack := stack } }) rfl]
    rw [State.afterPop_of_sensorFault own same.symm, State.alert_withMeas, level, State.alert_withProt]
  · have top : s.prot.topLevel = x.cls.level := by rw [Protection.topLevel, Protection.top_of_cons stack]
    rw [State.pop_of_waiting stack waiting]
    exact ⟨fun c more lowest below => State.promotePending_of_idle_below idle lowest (top ▸ below),
      fun above => State.promotePending_of_idle_above idle (top ▸ above)⟩
  · have top : s.prot.topLevel = x.cls.level := by rw [Protection.topLevel, Protection.top_of_cons stack]
    rw [State.pop_of_waiting stack waiting, ← top]
    exact State.promotePending_of_flying flying
  · by_cases same : j = k
    · subst same
      simp [State.returnChannel]
    · simp [State.returnChannel, same, Channels.get_set_other _ _ (Ne.symm same)]

end

section
/-! SUPPORT. The transmitter and the line (R1, R9 to R12, R15 to R19): one equation for each outcome of an event. -/

namespace Sys2Proof.Machine

section
variable {s : State}

/-! ### Attempts -/

theorem gap_eq (kind : PostKind) (n : Nat) : gap kind n = (match kind with
    | .alert | .order => 12
    | .state | .demand => 24
    | .config | .query | .report => 36) + 2 * n := by
  cases kind <;> rfl

theorem two_le_gap (kind : PostKind) (n : Nat) : 2 ≤ gap kind n := by
  cases kind <;> simp only [gap] <;> omega

theorem BusPort.candidate_of_urgent {b : Body} {rest : List Body} (h : s.bus.urgent = b :: rest) :
    s.bus.candidate = some b := by
  simp only [BusPort.candidate, h]

theorem BusPort.candidate_of_stateSlot {b : Body} (none : s.bus.urgent = []) (h : s.bus.stateSlot = some b) :
    s.bus.candidate = some b := by
  simp only [BusPort.candidate, none, h]

theorem BusPort.candidate_of_reportSlot {b : Body} (none : s.bus.urgent = []) (empty : s.bus.stateSlot = .none)
    (h : s.bus.reportSlot = some b) : s.bus.candidate = some b := by
  simp only [BusPort.candidate, none, empty, h]

theorem State.idleFor_line (held : s.bus.lineHeld = false) (receiving : s.bus.receiving = false) (n : Nat) :
    s.idleFor n = { s with bus := { s.bus with
      idleTime := if s.driving = none then s.bus.idleTime + n else s.bus.idleTime
      looking := s.bus.looking || decide (s.driving = none ∧ 2 ≤ s.bus.idleTime + n) } } := by
  have busy : (s.bus.lineHeld || s.bus.receiving || s.driving.isSome) = s.driving.isSome := by simp [held, receiving]
  rw [State.idleFor, busy]
  cases quiet : s.driving <;> simp

theorem State.idleFor_of_idle (held : s.bus.lineHeld = false) (receiving : s.bus.receiving = false)
    (quiet : s.driving = none) (n : Nat) : s.idleFor n = { s with bus := { s.bus with
      idleTime := s.bus.idleTime + n
      looking := s.bus.looking || decide (2 ≤ s.bus.idleTime + n) } } := by
  simp [State.idleFor_line held receiving, quiet]

section
variable (posts : s.station.state.posts = true) (held : s.bus.lineHeld = false)
  (receiving : s.bus.receiving = false) (quiet : s.driving = none) {waited : Nat}
include posts held receiving quiet

theorem exec_postTransmission_candidate (empty : s.bus.tx = none) {b : Body} (candidate : s.bus.candidate = some b)
    (reached : gap b.kind s.station.number ≤ s.bus.idleTime + waited) :
    exec (.postTransmission waited) s = .next (State.beginAttempt { s.idleFor waited with
      bus := (s.idleFor waited).bus.takeCandidate } b s.bus.seq) := by
  have idle : (s.idleFor waited).bus.idleTime = s.bus.idleTime + waited := by
    rw [State.idleFor_of_idle held receiving quiet]
  simp only [exec, execPostTransmission, posts, held, receiving, quiet, empty, candidate, idle, and_self, ite_true,
    if_pos reached]

theorem exec_postTransmission_retry {t : TxRegister} (waiting : s.bus.tx = some t)
    (reached : gap t.body.kind s.station.number ≤ s.bus.idleTime + waited) :
    exec (.postTransmission waited) s = .next ((s.idleFor waited).beginAttempt t.body t.seq) := by
  have idle : (s.idleFor waited).bus.idleTime = s.bus.idleTime + waited := by
    rw [State.idleFor_of_idle held receiving quiet]
  simp only [exec, execPostTransmission, posts, held, receiving, quiet, waiting, idle, and_self, ite_true,
    if_pos reached]

theorem exec_postTransmission_below {b : Body} (below : s.bus.idleTime + waited < gap b.kind s.station.number)
    (first : s.bus.tx = none → s.bus.candidate = some b) (own : ∀ x, s.bus.tx = some x → x.body = b) :
    exec (.postTransmission waited) s = .next (s.idleFor waited) := by
  have idle : (s.idleFor waited).bus.idleTime = s.bus.idleTime + waited := by
    rw [State.idleFor_of_idle held receiving quiet]
  cases tx : s.bus.tx with
  | none =>
    simp only [exec, execPostTransmission, posts, held, receiving, quiet, tx, first tx, idle, and_self, ite_true,
      if_neg (not_le.2 below)]
  | some x =>
    simp only [exec, execPostTransmission, posts, held, receiving, quiet, tx, own x tx, idle, and_self, ite_true,
      if_neg (not_le.2 below)]

end

/-! ### Collisions -/

/-- The start symbol is 14 bit-times active and then idle (R1), so bit-time 14 is the first one driven idle. -/
theorem postLevels_start (bytes : List Byte) :
    (postLevels bytes)[14]? = some false ∧ ∀ k < 14, (postLevels bytes)[k]? = some true := by
  have start : ∀ k < 14, startLevels[k]? = some true := by decide
  refine ⟨rfl, fun k less => ?_⟩
  rw [postLevels, List.getElem?_append_left (by have : startLevels.length = 16 := rfl; omega), start k less]

theorem lineLevel_iff (drives : List Bool) : lineLevel drives = true ↔ true ∈ drives := by
  simp [lineLevel]

/-- An attempt has a bit-time at which another station's active level is not the level driven. -/
theorem postLevels_collides (bytes : List Byte) :
    (postLevels bytes).any (fun level => lineLevel [level, true] != level) = true :=
  List.any_eq_true.2 ⟨false, List.mem_of_getElem? (postLevels_start bytes).1, rfl⟩

end

end Sys2Proof.Machine

open Sys2Proof Sys2Proof.Machine

/-- Settles O17. -/
theorem lineHeldEpisodes : Obligations.LineHeldEpisodes := by
  refine fun s live => ⟨fun free room => ?_, fun free full => ?_, fun held => ?_⟩
  · simp [exec, execLineHeldEpisode, live, free, State.joinRx, State.bump, room, RxEntry.tagged]
  · simp [exec, execLineHeldEpisode, live, free, State.joinRx, State.bump, not_lt.2 full]
  · simp [exec, execLineHeldEnd, live, held]

/-- Settles O18: whether the receiver looks is what `idleFor` leaves after the bit-times waited. -/
theorem startSymbolBeginsReception : Obligations.StartSymbolBeginsReception := by
  intro run s live receiving held
  refine ⟨fun long short looks => ?_, fun ignored => ?_⟩
  · have looking : (s.bus.looking || decide (s.driving = none ∧ 2 ≤ s.bus.idleTime + run.waited)) = true := by
      simpa using looks
    simp only [exec, execStartSymbol, live, receiving, held, State.idleFor_line held receiving, looking, long, short,
      and_self, ite_true]
    rfl
  · have no : ¬ ((s.bus.looking || decide (s.driving = none ∧ 2 ≤ s.bus.idleTime + run.waited)) = true ∧
        12 ≤ run.length ∧ run.length ≤ 48) := by
      rintro ⟨looking, long, -⟩
      exact ignored.elim (fun h => absurd long (not_le.2 h)) (fun h => h (by simpa using looking))
    simp only [exec, execStartSymbol, live, receiving, held, State.idleFor_line held receiving, and_self, ite_true,
      if_neg no]
    simp

/-- Settles O19. -/
theorem attemptBeginsAtTheGap : Obligations.AttemptBeginsAtTheGap := by
  intro waited s b posts held receiving quiet
  have looking {k : PostKind} (reached : gap k s.station.number ≤ s.bus.idleTime + waited) :
      2 ≤ s.bus.idleTime + waited := (two_le_gap k _).trans reached
  refine ⟨fun rest empty urgent reached => ?_, fun empty urgent slot reached => ?_,
    fun empty urgent slot report reached => ?_, fun seq last waiting reached => ?_, fun below first own => ?_⟩
  · replace reached := (gap_eq b.kind s.station.number).trans_le reached
    have first := BusPort.candidate_of_urgent urgent
    rw [exec_postTransmission_candidate posts held receiving quiet empty first reached,
      State.idleFor_of_idle held receiving quiet]
    simp [BusPort.takeCandidate, urgent, State.beginAttempt, looking reached]
  · replace reached := (gap_eq b.kind s.station.number).trans_le reached
    have first := BusPort.candidate_of_stateSlot urgent slot
    rw [exec_postTransmission_candidate posts held receiving quiet empty first reached,
      State.idleFor_of_idle held receiving quiet]
    simp [BusPort.takeCandidate, urgent, slot, State.beginAttempt, looking reached]
  · replace reached := (gap_eq b.kind s.station.number).trans_le reached
    have first := BusPort.candidate_of_reportSlot urgent slot report
    rw [exec_postTransmission_candidate posts held receiving quiet empty first reached,
      State.idleFor_of_idle held receiving quiet]
    simp [BusPort.takeCandidate, urgent, slot, State.beginAttempt, looking reached]
  · replace reached := (gap_eq b.kind s.station.number).trans_le reached
    rw [exec_postTransmission_retry posts held receiving quiet waiting reached,
      State.idleFor_of_idle held receiving quiet]
    simp [State.beginAttempt, looking reached]
  · rw [exec_postTransmission_below posts held receiving quiet (by rw [gap_eq]; exact below) first own,
      State.idleFor_of_idle held receiving quiet]

/-- Settles O20. -/
theorem transmissionCompletes : Obligations.TransmissionCompletes := by
  intro s bytes live driving
  simp only [exec, execTransmissionCompletion, driving, live, ite_true]
  rfl

/-- Settles O21. -/
theorem collisionOutcomes : Obligations.CollisionOutcomes := by
  refine ⟨lineLevel_iff, fun s b seq bytes last live tx => ⟨(postLevels_start bytes).1, (postLevels_start bytes).2,
    fun more below => ?_, fun more reached => ?_, fun final => ?_⟩⟩
  · simp only [exec, execCollision, tx, Option.map_some, Option.getD_some, live, postLevels_collides, and_self, ite_true,
      more, Bool.false_eq_true, ite_false, if_neg (not_le.2 below)]
    rfl
  · simp only [exec, execCollision, tx, Option.map_some, Option.getD_some, live, postLevels_collides, and_self, ite_true,
      more, Bool.false_eq_true, ite_false, if_pos reached]
    rfl
  · simp only [exec, execCollision, tx, Option.map_some, Option.getD_some, live, postLevels_collides, and_self, ite_true,
      final]
    rfl

/-- Settles O22. -/
theorem absorptionTakesTheOldest : Obligations.AbsorptionTakesTheOldest := by
  intro s e rest live idle rx
  simp only [exec, execAbsorption, live, idle, rx, ite_true]

end

section
/-! SUPPORT. Lines, faults and resets (R40, R41, R168 to R177): what the stop line's event, a trip in RUN and the
commands of the reset line leave, in equations. -/

namespace Sys2Proof.Machine

section
variable {s : State}

/-! ### The stop line (R168) -/

theorem State.showStopLine_of_live (live : s.station.state.live = true) (level : Bool) : s.showStopLine level =
    { s with pins := { s.pins with stopLine := level }, prot := { s.prot with stopLine := level } } := by
  simp [State.showStopLine, live]

theorem State.offerUrgent_withProt (s : State) (p : Protection) (b : Body) :
    State.offerUrgent { s with prot := p } b = { s.offerUrgent b with prot := p } := by
  unfold State.offerUrgent
  dsimp only
  (repeat' split) <;> rfl

theorem State.offerUrgent_seq (s : State) (b : Body) : (s.offerUrgent b).bus.seq = s.bus.seq := by
  unfold State.offerUrgent
  (repeat' split) <;> rfl

/-- The ORDER STOP is offered before the STOP is taken, and does not read the stack that the take changes. -/
theorem State.stopLineAsserted_taken (live : s.station.state.live = true) (off : s.prot.onStack .stop = false)
    (undeferred : .stop ∉ s.prot.deferredSet) (unpending : .stop ∉ s.prot.pendingSet)
    (free : s.station.state ≠ .run ∨ s.gov.update = none) :
    s.stopLineAsserted = (State.bump (State.alert (State.offerUrgent { s with prot := { s.prot with
      stack := ⟨.stop, s.bus.seq, s.gov.uRef, s.gov.output, 0, false, []⟩ :: s.prot.stack } } orderStopAll)
        .stopTaken []) .stopTakes) := by
  rw [State.stopLineAsserted, State.receiveStop_taken (by simpa using live) (by simpa using off)
    (by simpa using undeferred) (by simpa using free), State.take_stop (by simpa using unpending)]
  refine congrArg (fun t => State.bump (State.alert t .stopTaken []) .stopTakes)
    (Eq.trans ?_ (State.offerUrgent_withProt s _ _).symm)
  simp [State.offerUrgent_seq]

theorem State.stopLineAsserted_deferred (off : s.prot.onStack .stop = false) (undeferred : .stop ∉ s.prot.deferredSet)
    (running : s.station.state = .run) (flying : s.gov.update ≠ none) :
    s.stopLineAsserted = State.offerUrgent { s with prot := { s.prot with
      deferredSet := .stop :: s.prot.deferredSet } } orderStopAll := by
  rw [State.stopLineAsserted, State.receiveStop_deferred (by simpa using off) (by simpa using undeferred)
    (by simpa using running) (by simpa using flying)]
  refine Eq.trans ?_ (State.offerUrgent_withProt s _ _).symm
  simp

theorem State.stopLineAsserted_again (live : s.station.state.live = true)
    (known : s.prot.onStack .stop = true ∨ .stop ∈ s.prot.deferredSet) :
    s.stopLineAsserted = (s.offerUrgent orderStopAll).bump .stopTakes :=
  State.receiveStop_again (by simpa using live) (by simpa using known)

theorem exec_stopLineAsserted (live : s.station.state.live = true) (inactive : s.pins.stopLine = false) :
    exec .stopLineAsserted s = .next (State.stopLineAsserted { s with
      pins := { s.pins with stopLine := true }, prot := { s.prot with stopLine := true } }) := by
  simp only [exec, execStopLineAsserted, inactive, Bool.false_eq_true, ite_false, live, ite_true,
    State.showStopLine_of_live live]

/-! ### Departures from RUN and trips (R85, R174) -/

/-- A departure from RUN; a faulted TORQUE_FB follows the output to 0 (R61, R85). -/
theorem State.departRun_eq (s : State) (mode : Mode) : s.departRun mode = { s with
    gov := { s.gov with output := 0, request := 0, shortfall := 0, mode := mode }
    prot := { s.prot with shortfallReason := false }
    meas := { s.meas with channels := { s.meas.channels with torqueFb :=
      (if s.meas.channels.torqueFb.faulted then { s.meas.channels.torqueFb with value := 0 }
        else s.meas.channels.torqueFb) } } } := by
  unfold State.departRun State.followTorque
  split <;> simp_all [State.setChannelValue, State.setChannel, Channels.set, Channels.get]

theorem State.trip_of_run (run : s.station.state = .run) (cause : TripCause) : s.trip cause = State.alert { s with
    station := { s.station with state := .tripped }
    meas := { s.meas with channels := { s.meas.channels with torqueFb :=
      (if s.meas.channels.torqueFb.faulted then { s.meas.channels.torqueFb with value := 0 }
        else s.meas.channels.torqueFb) } }
    gov := { s.gov with
      output := 0, request := 0, shortfall := 0, mode := .coast
      update := s.gov.update.map fun u => { u with discarded := true } }
    prot := { s.prot with
      firstCause := some cause, causes := [cause], heldReason := false, shortfallReason := false } }
    .trip [cause.code] := by
  rw [State.trip, if_pos run, State.departRun_eq]

theorem State.receiveCause_of_tripped (tripped : s.station.state = .tripped) (cause : TripCause) :
    s.receiveCause cause = { s with
      counters := s.counters.bump cause.counter
      prot := { s.prot with
        causes := if cause ∈ s.prot.causes then s.prot.causes else s.prot.causes ++ [cause] } } := by
  by_cases known : cause ∈ s.prot.causes <;> simp [State.receiveCause, tripped, State.bump, known]

theorem State.receiveCause_of_other (cause : TripCause) (other : s.station.state = .listen ∨
    s.station.state = .commission ∨ s.station.state = .reset ∨ s.station.state = .isolated) :
    s.receiveCause cause = s := by
  unfold State.receiveCause
  rcases other with eq | eq | eq | eq <;> simp [eq]

theorem State.brakeRequest_of_left (left : s.station.state ≠ .run) : s.brakeRequest = true := if_neg left

theorem State.gateInhibit_of_left (left : s.station.state ≠ .run) : s.gateInhibit = true := by
  simp [State.gateInhibit, left]

end

end Sys2Proof.Machine

open Sys2Proof Sys2Proof.Machine

/-- Settles O57. -/
theorem stopLineEvents : Obligations.StopLineEvents := by
  intro s live
  refine ⟨fun inactive => ?_, ?_⟩
  · rw [exec_stopLineAsserted live inactive]
    refine ⟨fun off undeferred unpending free => ?_, fun off undeferred run flying => ?_, fun known => ?_⟩
    · exact congrArg Host.Outcome.next (State.stopLineAsserted_taken live off undeferred unpending free)
    · exact congrArg Host.Outcome.next (State.stopLineAsserted_deferred off undeferred run flying)
    · exact congrArg Host.Outcome.next (State.stopLineAsserted_again live known)
  · simp only [exec, execStopLineInactive, State.showStopLine_of_live live]

/-- Settles O58. -/
theorem powerStageFaults : Obligations.PowerStageFaults := by
  intro s
  refine ⟨fun run => ?_, fun left => ?_, fun tripped => ?_, fun other => ?_⟩
  · have tripped := (State.receiveCause_of_running (s := s.showFaultLine true) .overcurrent (.inr (.inl run))).trans
      (State.trip_of_run (s := (s.showFaultLine true).bump .overcurrentTrips) run .overcurrent)
    exact ⟨_, _, congrArg Host.Outcome.next tripped, rfl, rfl, State.brakeRequest_of_left (by simp),
      State.gateInhibit_of_left (by simp)⟩
  · have other : s.station.state ≠ .run := by rcases left with eq | eq <;> simp [eq]
    exact congrArg Host.Outcome.next ((State.receiveCause_of_running (s := s.showFaultLine true) .overcurrent
      (left.imp_right .inr)).trans (State.trip_of_left (s := (s.showFaultLine true).bump .overcurrentTrips) other _))
  · exact congrArg Host.Outcome.next (State.receiveCause_of_tripped (s := s.showFaultLine true) tripped .overcurrent)
  · exact congrArg Host.Outcome.next (State.receiveCause_of_other (s := s.showFaultLine true) .overcurrent other)

/-- Settles O59: outside RUN nothing departs, and in RUN the departure drops the output first. -/
theorem coldResets : Obligations.ColdResets := by
  intro s
  refine ⟨_, rfl, ?_⟩
  by_cases run : s.station.state = .run
  · simp [run, State.departRun_eq, State.abandonOperations, State.driving, State.brakeRequest, State.gateInhibit,
      State.chopperGate]
  · simp [run, State.abandonOperations, State.driving, State.brakeRequest, State.gateInhibit, State.chopperGate]

/-- Settles O60. -/
theorem resetReleases : Obligations.ResetReleases := by
  intro straps s reset
  refine ⟨fun low high => ?_, fun illegal => ?_⟩
  · have legal : legalNumber straps.val = true := by simp [legalNumber, low, high]
    simp only [exec, execResetRelease, reset, ite_true, legal]
    by_cases line : s.pins.stopLine = true
    · have asserted : (s.released straps).startSelfCheck.prot.stopLine = true := line
      have taken := State.stopLineAsserted_taken (s := (s.released straps).startSelfCheck) rfl rfl
        List.not_mem_nil List.not_mem_nil (.inl nofun)
      rw [if_pos asserted, taken]
      simp only [if_pos line]
      exact ⟨_, rfl, rfl, rfl, rfl, rfl, rfl, rfl, rfl, rfl, rfl, rfl, rfl, rfl⟩
    · have quiet : ¬ (s.released straps).startSelfCheck.prot.stopLine = true := line
      simp only [if_neg quiet, if_neg line]
      exact ⟨_, rfl, rfl, rfl, rfl, rfl, rfl, rfl, rfl, rfl, rfl, rfl, rfl, rfl⟩
  · have no : legalNumber straps.val = false := by simp [legalNumber]; omega
    simp only [exec, execResetRelease, reset, ite_true, no, Bool.false_eq_true, ite_false]
    exact ⟨_, rfl, rfl, rfl, rfl, rfl, rfl, rfl, rfl, rfl⟩

end

section
/-! SUPPORT. Computations without state: the demand in force (R32, R33), shares (R108 to R110), the thermal model, offer
and derate (R129, R132, R146), and the self-check's posts (R20). -/

namespace Sys2Proof.Machine

/-! ### Driven peers (R32) -/

theorem StationState.driven_iff {st : StationState} : st.driven = true ↔ st = .run ∨ st = .held := by
  cases st <;> simp [StationState.driven]

theorem PeerEntry.drivenRecord_iff (e : PeerEntry) (r : StateRecord) : e.drivenRecord = some r ↔
    (e.presence = .fresh ∨ e.presence = .aged) ∧ e.contents = .state r ∧
    (r.stationState = .run ∨ r.stationState = .held) := by
  have stored (x : StateRecord) : (if x.stationState.driven then some x else none) = some r ↔
      x = r ∧ r.stationState.driven = true := by
    rw [Option.ite_none_right_eq_some, Option.some.injEq, and_comm]
    exact and_congr_right fun same => by rw [same]
  unfold PeerEntry.drivenRecord
  rw [← StationState.driven_iff]
  cases e.presence <;> cases e.contents <;> simp [stored]

/-! ### Shares (R108 to R110) -/

theorem shareOf_bounds {m n sum : Nat} (positive : 0 < sum) (c : Nat) :
    shareOf m n c sum * sum ≤ m * n * c ∧ m * n * c < (shareOf m n c sum + 1) * sum := by
  rw [shareOf, if_neg positive.ne']
  exact ⟨Nat.div_mul_le_self _ _, Nat.lt_mul_of_div_lt (Nat.lt_succ_self _) positive⟩

/-- Whatever the offers are, the shares of a row of them by one sum are theirs but for the truncations. -/
theorem sum_shareOf_bounds {m n sum : Nat} (positive : 0 < sum) (offers : List Nat) :
    (offers.map fun c => shareOf m n c sum).sum * sum ≤ m * n * offers.sum ∧
    m * n * offers.sum ≤ ((offers.map fun c => shareOf m n c sum).sum + offers.length) * sum := by
  induction offers with
  | nil => simp
  | cons c rest ih =>
    obtain ⟨low, high⟩ := ih
    obtain ⟨lowC, highC⟩ := shareOf_bounds (m := m) (n := n) positive c
    simp only [List.map_cons, List.sum_cons, List.length_cons]
    constructor <;> nlinarith

theorem sum_of_forall_eq {offers : List Nat} {c : Nat} (equal : ∀ d ∈ offers, d = c) : offers.sum = offers.length * c := by
  rw [List.eq_replicate_of_mem equal, List.sum_replicate, List.length_replicate, smul_eq_mul]

/-! ### Thermal model, offer and derate -/

theorem clampInt_monotone {lo hi x y : Int} (h : x ≤ y) : clampInt lo hi x ≤ clampInt lo hi y := by
  simp only [clampInt]; omega

theorem offerOfTemp_antitone (gridPower : Nat) {x y : Int} (h : x ≤ y) :
    offerOfTemp gridPower y ≤ offerOfTemp gridPower x := by
  have between : gridPower * (6000 - y).toNat / 1000 ≤ gridPower * (6000 - x).toNat / 1000 := by
    gcongr
    omega
  by_cases cool : x ≤ 5000
  · rw [offerOfTemp.eq_def gridPower x, if_pos cool]
    exact offerOfTemp_le gridPower y
  · by_cases hot : 6000 ≤ y
    · rw [offerOfTemp, if_neg (by omega), if_pos hot]
      exact Nat.zero_le _
    · simpa only [offerOfTemp, if_neg cool, if_neg hot, if_neg (show ¬ y ≤ 5000 by omega),
        if_neg (show ¬ 6000 ≤ x by omega)] using between

theorem derateOf_eq (a : Nat) : derateOf a = if a ≤ 30000000 then 1024
    else if a < 45000000 then 1024 * (45000000 - a) / 15000000 else 0 := rfl

theorem derateOf_antitone {a b : Nat} (h : a ≤ b) : derateOf b ≤ derateOf a := by
  simp only [derateOf_eq]
  split_ifs <;> omega

theorem derateOf_le (a : Nat) : derateOf a ≤ 1024 := by
  simpa only [derateOf_eq, Nat.zero_le, ite_true] using derateOf_antitone (Nat.zero_le a)

/-! ### The self-check (R20, R42, R43) -/

/-- The check of the two tags at the end of the self-check. -/
theorem exec_selfCheckCompletion {s : State} {l : Loopback} (flipsA flipsB : List Nat) (line : Bool)
    (listen : s.station.state = .listen) (looped : s.bus.loopback = some l) (looping : l.looping = true) :
    exec (.selfCheckCompletion flipsA flipsB line) s = .next (if l.tags flipsA flipsB = (.check, .untagged) then
      State.leaveListen { s with
        pins := { s.pins with faultLine := line }
        bus := { s.bus with loopback := none }
        station := { s.station with selfCheckPassed := true } }
      else s.isolate .selfCheck) := by
  simp only [exec, execSelfCheckCompletion, looped, listen, looping, and_self, ite_true]
  split <;> rfl

theorem State.leaveListen_early {s : State} (early : s.station.listenCounter ≠ 16) : s.leaveListen = s := by
  simp [State.leaveListen, early]

theorem State.leaveListen_unlocked {s : State} (ended : s.station.listenCounter = 16)
    (passed : s.station.selfCheckPassed = true) (unlocked : s.station.locked = false) :
    s.leaveListen = { s with station := { s.station with state := .commission } } := by
  simp [State.leaveListen, ended, passed, unlocked]

theorem State.leaveListen_locked {s : State} (ended : s.station.listenCounter = 16)
    (passed : s.station.selfCheckPassed = true) (locked : s.station.locked = true) : s.leaveListen = s.enterReady := by
  simp [State.leaveListen, ended, passed, locked]

/-- The four station numbers' test posts, undisturbed. -/
theorem testPost_tags : ∀ n, 1 ≤ n → n ≤ 4 →
    (postLevels (testPostA n)).length = 116 ∧ loopedTag (testPostA n) [] = .check ∧
    loopedTag (testPostB n) [] = .untagged := by
  intro n low high
  interval_cases n <;> decide +kernel

theorem testPost_bytes : ∀ n, 1 ≤ n → n ≤ 4 →
    let clean : List Byte := [6, byte n, 0, 0, byte n, 1, 0, 0]
    testPostB n = clean ++ crcBytes clean ∧ testPostA n = clean.set 6 90 ++ crcBytes clean := by
  intro n low high
  interval_cases n <;> decide +kernel

end Sys2Proof.Machine

open Sys2Proof Sys2Proof.Machine

/-- Settles O26. -/
theorem demandInForceFollowsPresence : Obligations.DemandInForceFollowsPresence := by
  refine ⟨fun e orphan => ?_, PeerEntry.drivenRecord_iff, fun s => ⟨rfl, ?_⟩⟩
  · refine ⟨fun fresh => ?_, fun aged => ?_, fun gone => ?_⟩
    · simp only [demandInForce, fresh]; rfl
    · simp only [demandInForce, aged]; rfl
    · rcases gone with eq | eq <;> simp only [demandInForce, eq] <;> rfl
  · simp only [State.usableCount, StationState.driven_iff]

/-- Settles O50. -/
theorem sharesAddUp : Obligations.SharesAddUp := by
  intro m offers positive
  obtain ⟨low, high⟩ := sum_shareOf_bounds (m := m) (n := offers.length) positive offers
  refine ⟨Nat.le_of_mul_le_mul_right low positive, Nat.le_of_mul_le_mul_right high positive, fun c equal => ?_, ?_⟩
  · rw [shareOf, if_neg positive.ne', mul_assoc, ← sum_of_forall_eq equal, Nat.mul_div_cancel _ positive]
  · simp [shareOf]

/-- Settles O54. -/
theorem thermalModelsAndDerates : Obligations.ThermalModelsAndDerates := by
  refine ⟨fun theta air power k density cool => clampInt_bounds (by omega) _,
    fun theta air p q k density more => clampInt_monotone (by gcongr), fun gridPower x y hotter => ?_, fun a b more => ?_⟩
  · refine ⟨offerOfTemp_antitone gridPower hotter, offerOfTemp_le gridPower x, fun hot => ?_, fun cool => if_pos cool⟩
    rw [offerOfTemp, if_neg (by omega), if_pos hot]
  · refine ⟨derateOf_antitone more, ?_, fun low => if_pos low, fun above below => ?_, fun hot => ?_⟩
    · exact derateOf_le a
    · rw [derateOf_eq, if_neg (not_le.2 above), if_pos below]
    · rw [derateOf_eq, if_neg (by omega), if_neg (not_lt.2 hot)]

/-- Settles O43. -/
theorem selfCheckOutcomes : Obligations.SelfCheckOutcomes := by
  refine ⟨fun flipsA flipsB line s l listen looped looping => ?_, fun l fresh => ⟨fun more => ?_, fun last => ?_⟩,
    fun n low high => ⟨testPost_bytes n low high, testPost_tags n low high⟩⟩
  · rw [exec_selfCheckCompletion flipsA flipsB line listen looped looping]
    refine ⟨fun tagA tagB => ?_, fun failed => ?_⟩
    · have passed : l.tags flipsA flipsB = (.check, .untagged) := Prod.ext tagA tagB
      rw [if_pos passed]
      refine ⟨fun early => ?_, fun ended free => ?_, fun ended locked asserted => ?_⟩
      · rw [State.leaveListen_early (by exact early.ne)]
      · by_cases locked : s.station.locked = true
        · rw [State.leaveListen_locked (by exact ended) rfl (by exact locked),
            State.enterReady_inactive (by simpa [locked] using free)]
          simp only [if_pos locked]
        · rw [State.leaveListen_unlocked (by exact ended) rfl (by simpa using locked)]
          simp only [if_neg locked]
      · rw [State.leaveListen_locked (by exact ended) rfl (by exact locked), State.enterReady_asserted (by exact asserted)]
    · rw [if_neg fun passed => failed ⟨congrArg Prod.fst passed, congrArg Prod.snd passed⟩]
      rfl
  · simp only [Loopback.tick, fresh, if_pos more]
  · simp only [Loopback.tick, fresh, if_neg (not_lt.2 last)]

end

section
/-! SUPPORT. What an accepted post leaves in the entries (R26, R27), and the orders that push and pop contexts (R164,
R168, R170). -/

namespace Sys2Proof.Machine

/-! ### The entries after an accepted post -/

section
variable {c : Instr} {s : State} {p : Post}

/-- A RESTART that is not taken is refused (R51), so it leaves the entries alone. -/
theorem State.judgeRestart_refused (h : (s.station.state ≠ .ready ∧ s.station.state ≠ .held ∧
    s.station.state ≠ .tripped) ∨ 30 < s.gov.uRef.natAbs) (straps : Fin 8) : s.judgeRestart straps = s.refuseOrder := by
  have refused : s.restartTaken = false := by
    unfold State.restartTaken State.standing
    rcases h with ⟨ready, held, tripped⟩ | moving
    · cases state : s.station.state <;> simp_all
    · cases s.station.state <;> simp [moving]
  simp [State.judgeRestart, refused]

theorem routeOrder_peers {owner : Nat → State → State} (owned : ∀ a, (owner a s).peers = s.peers) (p : Post) :
    (routeOrder owner p s).peers = s.peers := by
  unfold routeOrder
  (repeat' split) <;> simp [owned]

/-- An order that does not reach its owner. -/
theorem routeOrder_peers_of_stray {owner : Nat → State → State} {k : OrderKind} {n a : Nat} (body : p.body = .order k n a)
    (kind : k ≠ .stop) (stray : p.source ≠ .s0 ∨ (n ≠ s.station.number ∧ n ≠ targetAll)) :
    (routeOrder owner p s).peers = s.peers := by
  rw [routeOrder, body]
  rcases stray with other | ⟨own, all⟩
  · dsimp only
    split <;> simp [kind, other]
  · simp [own, all]

theorem routeOf_peers (about : c.about p.body = true) (untaken : ∀ k, c = .restart k → p.source ≠ .s0 ∨
      (∀ n ∈ p.body.target, n ≠ s.station.number ∧ n ≠ targetAll) ∨
      (s.station.state ≠ .ready ∧ s.station.state ≠ .held ∧ s.station.state ≠ .tripped) ∨ 30 < s.gov.uRef.natAbs) :
    (routeOf c p s).peers = s.peers := by
  cases c with
  | restart straps =>
    cases body : p.body with
    | order k n a =>
      obtain rfl : k = .restart := by cases k <;> simp_all [Instr.about]
      rcases untaken straps rfl with other | far | refused
      · exact routeOrder_peers_of_stray body (by decide) (.inl other)
      · exact routeOrder_peers_of_stray body (by decide) (.inr (far n (by rw [body]; rfl)))
      · exact routeOrder_peers (owner := fun _ t => t.judgeRestart straps)
          (fun _ => by rw [State.judgeRestart_refused refused]; rfl) p
    | _ => rw [body] at about; cases about
  | demand => dsimp only [routeOf, routeDemand]; (repeat' split) <;> simp
  | config => dsimp only [routeOf, routeConfig]; (repeat' split) <;> simp
  | query => dsimp only [routeOf, routeQuery]; (repeat' split) <;> simp
  | stop | release | clearTrip | acknowledge | lock => exact routeOrder_peers (fun _ => by simp) p
  | _ => rfl

@[simp] theorem State.afterAcceptance_peers (source : StationId) : (s.afterAcceptance source).peers = s.peers := by
  unfold State.afterAcceptance
  dsimp only
  split <;> simp

/-! ### An entry's fields (R26, R27) -/

theorem sequenceGap_eq {l n : Nat} (last : l < 16) (seq : n < 16) : (sequenceGap (some l) n : Int) = ((n : Int) - l - 1) % 16 := by
  simp only [sequenceGap]
  omega

end

end Sys2Proof.Machine

open Sys2Proof Sys2Proof.Machine

/-- Settles O24: no route but a taken RESTART writes to the entries, so the sender's is as its acceptance left it. -/
theorem acceptedPostRefreshesItsEntry : Obligations.AcceptedPostRefreshesItsEntry := by
  intro c p s about accepting untaken
  refine ⟨_, exec_of_accepting about accepting, ?_⟩
  have kept : ((routeOf c p (s.accepted p)).afterAcceptance p.source).peers = (s.accepted p).peers := by
    rw [State.afterAcceptance_peers, routeOf_peers about (by exact untaken)]
  have entry : (s.accepted p).peers.entries.get p.source = (s.peers.entries.get p.source).accept p :=
    Peers.get_set_same _ _ _
  rw [kept, entry]
  refine ⟨rfl, rfl, rfl, fun i other => Peers.get_set_other _ _ (Ne.symm other), rfl, rfl, rfl, rfl, ?_, ?_, ?_, ?_, ?_, ?_, ?_⟩
  · intro l last low high
    have gap := sequenceGap_eq low high
    simp only [PeerEntry.accept, last]
    omega
  · intro none bounded
    simpa [PeerEntry.accept, none, sequenceGap] using bounded
  · intro k a body
    simp [PeerEntry.accept, body, nextAlert]
  · intro other
    cases body : p.body <;> simp [PeerEntry.accept, body, nextAlert]
    exact absurd body (other _ _)
  · intro r body host
    simp only [PeerEntry.accept, body, host, nextContents, ite_true]
    rfl
  · intro r body wheel
    simp only [PeerEntry.accept, body, nextContents, if_neg wheel]
    rfl
  · intro noDemand noState
    cases body : p.body with
    | demand r => simp only [PeerEntry.accept, body, nextContents, if_neg (noDemand r body)]
    | state r => simp only [PeerEntry.accept, body, nextContents, if_pos (noState r body)]
    | _ => simp only [PeerEntry.accept, body, nextContents]

end

section
/-! SUPPORT. The orders that push and pop contexts (R164, R168, R170), seen on the response stack. -/

namespace Sys2Proof.Machine

/-! ### What a report and a pop leave of the stack -/

/-- A class that the report of R31 does not judge is on the stack after it exactly if it was before. -/
theorem State.ReportFollows.onStack {a t : State} (h : State.ReportFollows a t) {c : ProtClass} (unreported : c.NotReported) :
    t.prot.onStack c = a.prot.onStack c := by
  obtain ⟨-, -, -, -, -, -, -, -, -, -, -, -, -, stack, -⟩ := h
  have listed (p : Protection) : p.onStack c = (p.stack.filter fun x => decide x.cls.NotReported).any (·.cls == c) := by
    rw [List.any_filter, Protection.onStack]
    congr 1
    funext x
    cases own : x.cls == c
    · simp
    · simp [beq_iff_eq.1 own, unreported]
  rw [listed, listed, stack]

section
variable {s : State} {x : Context} {rest : List Context}

@[simp] theorem State.afterPop_stack (s : State) (x : Context) : (s.afterPop x).prot.stack = s.prot.stack := by
  have returned := foldl_keeps (fun t => t.prot) State.returnChannel (fun t c => State.returnChannel_prot t c)
  unfold State.afterPop
  dsimp only
  (repeat' split) <;> simp [returned, State.withdraw]

theorem State.afterPop_pendingSet_subset (s : State) (x : Context) : (s.afterPop x).prot.pendingSet ⊆ s.prot.pendingSet := by
  have returned := foldl_keeps (fun t => t.prot) State.returnChannel (fun t c => State.returnChannel_prot t c)
  unfold State.afterPop
  dsimp only
  (repeat' split) <;> simp [returned, State.withdraw, List.erase_subset]

theorem State.afterPops_prot (s : State) (l : List Context) : (l.foldl State.afterPop s).prot.stack = s.prot.stack ∧
    (l.foldl State.afterPop s).prot.pendingSet ⊆ s.prot.pendingSet := by
  induction l generalizing s with
  | nil => exact ⟨rfl, List.Subset.refl _⟩
  | cons x rest ih =>
    obtain ⟨stack, pending⟩ := ih (s.afterPop x)
    exact ⟨stack.trans (s.afterPop_stack x), fun c mem => s.afterPop_pendingSet_subset x (pending mem)⟩

/-- A class on the stack after a pop was under the clear-ready contexts, or pending. -/
theorem State.onStack_of_pop {c : ProtClass} (on : s.pop.prot.onStack c = true) :
    s.dropReady.prot.onStack c = true ∨ c ∈ s.prot.pendingSet := by
  rw [State.pop_eq] at on
  obtain ⟨stack, pending⟩ := s.dropReady.afterPops_prot (s.prot.stack.takeWhile Context.clearReady)
  have onStack (u : State) (same : u.prot.stack = s.dropReady.prot.stack) (d : ProtClass) :
      u.prot.onStack d = s.dropReady.prot.onStack d := by rw [Protection.onStack, same, Protection.onStack]
  obtain ⟨-, eq⟩ | ⟨-, d, more, lowest, -, eq⟩ | ⟨-, -, eq⟩ :=
    ((s.prot.stack.takeWhile Context.clearReady).foldl State.afterPop s.dropReady).promotePending_cases <;> rw [eq] at on
  · exact .inl ((onStack _ stack c).symm.trans on)
  · rw [State.take_prot, Protection.onStack, List.any_cons, Bool.or_eq_true, beq_iff_eq] at on
    rcases on with own | on
    · exact .inr (pending (by rw [lowest]; exact own ▸ List.mem_cons_self))
    · exact .inl ((onStack _ stack c).symm.trans on)
  · exact .inl ((onStack _ stack c).symm.trans on)

/-- Pending classes above the top level stay pending (R165). -/
theorem State.promotePending_of_waits (waits : s.prot.Waits) : s.promotePending = s := by
  obtain ⟨-, eq⟩ | ⟨-, c, more, lowest, below, -⟩ | ⟨-, -, eq⟩ := s.promotePending_cases
  · have kept : s.prot.pendingSet.filter (fun c => !decide (c.level < s.prot.topLevel)) = s.prot.pendingSet :=
      List.filter_eq_self.2 fun c mem => by simpa using (waits c mem).le
    have none : s.prot.pendingSet.filter (fun c => decide (c.level < s.prot.topLevel)) = [] :=
      List.filter_eq_nil_iff.2 fun c mem => by simpa using (waits c mem).le
    rw [eq, kept, none]
    rfl
  · exact absurd below (not_lt.2 (waits c (by simp [lowest])).le)
  · exact eq

/-- A class occurs once on the stack. -/
theorem Protection.Rising.unique {p : Protection} (rising : p.Rising) {x y : Context} (memX : x ∈ p.stack)
    (memY : y ∈ p.stack) (same : x.cls = y.cls) : x = y := by
  have nodup : (p.stack.map fun x => x.cls.level).Nodup := rising.imp fun less => less.ne
  exact List.inj_on_of_nodup_map nodup memX memY (congrArg ProtClass.level same)

/-- The contexts below the top are of other classes. -/
theorem Protection.Rising.ne_of_cons {p : Protection} (rising : p.Rising) (stack : p.stack = x :: rest) {y : Context}
    (mem : y ∈ rest) : y.cls ≠ x.cls := by
  have levels := rising
  rw [Protection.rising_of_cons stack] at levels
  exact fun same => (levels.1 y mem).ne' (congrArg ProtClass.level same)

theorem Protection.Rising.map_ready_of_cons {p : Protection} (rising : p.Rising) (stack : p.stack = x :: rest)
    {c : ProtClass} (own : x.cls = c) : p.stack.map (fun y => if y.cls = c then { y with clearReady := true } else y) =
      { x with clearReady := true } :: rest := by
  rw [stack, List.map_cons, if_pos own]
  exact congrArg _ ((List.map_congr_left fun y mem => if_neg (own ▸ rising.ne_of_cons stack mem)).trans (List.map_id _))

/-! ### RELEASE (R170) -/

theorem State.judgeRelease_taken (on : s.prot.onStack .stop = true) (standing : s.gov.uRef.natAbs ≤ 30)
    (inactive : s.prot.stopLine = false) : s.judgeRelease = s.readyAndPop .stop := by
  simp [State.judgeRelease, State.standing, on, standing, inactive]

theorem State.judgeRelease_refused (h : s.prot.onStack .stop = false ∨ 30 < s.gov.uRef.natAbs ∨ s.prot.stopLine = true) :
    s.judgeRelease = s.refuseOrder := by
  rcases h with off | moving | asserted
  · simp [State.judgeRelease, off]
  · simp [State.judgeRelease, State.standing, moving]
  · simp [State.judgeRelease, asserted]

/-! ### ACKNOWLEDGE (R63, R164) -/

/-- A channel record returned to service (R63). -/
def ChannelRecord.returned (r : ChannelRecord) : ChannelRecord := { r with faulted := false, value := r.lastGood.getD r.value }

theorem State.returnChannel_get (s : State) (c k : Channel) : (s.returnChannel c).meas.channels.get k =
    if k = c then (s.meas.channels.get k).returned else s.meas.channels.get k := by
  by_cases own : k = c
  · subst own
    simp [State.returnChannel, ChannelRecord.returned]
  · simp [State.returnChannel, own, Channels.get_set_other _ _ (Ne.symm own)]

theorem ChannelRecord.returned_returned (r : ChannelRecord) : r.returned.returned = r.returned := by
  cases good : r.lastGood <;> simp [ChannelRecord.returned, good]

theorem State.returnChannels_get (l : List Channel) (s : State) (k : Channel) :
    (l.foldl State.returnChannel s).meas.channels.get k =
      if k ∈ l then (s.meas.channels.get k).returned else s.meas.channels.get k := by
  induction l generalizing s with
  | nil => simp
  | cons c rest ih =>
    rw [List.foldl_cons, ih, State.returnChannel_get]
    by_cases own : k = c <;> by_cases later : k ∈ rest <;> simp [own, later, ChannelRecord.returned_returned]

theorem State.mem_returnChannels (l : List Channel) {s : State} (nodup : s.meas.faultOrder.Nodup) (k : Channel) :
    k ∈ (l.foldl State.returnChannel s).meas.faultOrder ↔ k ∈ s.meas.faultOrder ∧ k ∉ l := by
  induction l generalizing s with
  | nil => simp
  | cons c rest ih =>
    rw [List.foldl_cons, ih (nodup.erase c), State.returnChannel]
    simp only [nodup.mem_erase_iff, List.mem_cons]
    tauto

theorem State.acknowledgeTaken_iff (rising : s.prot.Rising) (a : Nat) (mem : x ∈ s.prot.stack) (own : x.cls = .sensorFault) :
    s.acknowledgeTaken a = true ↔
      a = 6 ∧ x.hold = 0 ∧ ∀ c ∈ x.channels, 32 ≤ (s.meas.channels.get c).goodRun := by
  have found : s.prot.stack.find? (fun y => y.cls == .sensorFault) = some x := by
    obtain ⟨y, eq⟩ : ∃ y, s.prot.stack.find? (fun y => y.cls == .sensorFault) = some y :=
      Option.isSome_iff_exists.1 (List.find?_isSome.2 ⟨x, mem, by simp [own]⟩)
    have same : y.cls = .sensorFault := by simpa using List.find?_some eq
    rw [eq, rising.unique (List.mem_of_find?_eq_some eq) mem (same.trans own.symm)]
  simp [State.acknowledgeTaken, found, and_assoc]

theorem State.acknowledgeTaken_of_off (off : s.prot.onStack .sensorFault = false) (a : Nat) : s.acknowledgeTaken a = false := by
  have none : s.prot.stack.find? (fun y => y.cls == .sensorFault) = .none := by
    rw [List.find?_eq_none]
    simpa using Protection.onStack_eq_false_iff.1 off
  simp [State.acknowledgeTaken, none]

theorem State.acknowledgeTaken_of_other {a : Nat} (other : a ≠ 6) : s.acknowledgeTaken a = false := by
  unfold State.acknowledgeTaken
  split <;> simp [other]

/-- With SENSOR_FAULT on top the stack has no more than BASE below it, and nothing pends. -/
theorem Protection.Apart.sensorFault_top {p : Protection} (apart : p.Apart) (waits : p.Waits) (mem : x ∈ p.stack)
    (own : x.cls = .sensorFault) (top : p.top = .sensorFault) : p.stack = [x, Context.base] ∧ p.pendingSet = [] := by
  have rising := Protection.rising_of_stackOrdered apart.ordered
  have level : p.topLevel = 6 := congrArg ProtClass.level top
  have base {c : ProtClass} (above : 6 < c.level) : c = .base := by cases c <;> simp_all [ProtClass.level]
  constructor
  · cases stack : p.stack with
    | nil => simp [stack] at mem
    | cons y more =>
      have onTop : y.cls = .sensorFault := (Protection.top_of_cons stack).symm.trans top
      obtain rfl : y = x := rising.unique (by simp [stack]) mem (onTop.trans own.symm)
      obtain ⟨below, rest⟩ := (Protection.rising_of_cons stack).1 rising
      have last := apart.ordered.1
      rw [stack] at last
      cases more with
      | nil =>
        obtain rfl : y = Context.base := by simpa using last
        cases onTop
      | cons z others =>
        have bottom : z.cls = .base := base (by simpa [own, ProtClass.level] using below z List.mem_cons_self)
        cases others with
        | nil => simpa using last
        | cons w _ =>
          have above := ((Protection.rising_of_cons rfl).1 rest).1 w List.mem_cons_self
          exact absurd (ProtClass.level_le_base w.cls) (by rw [← bottom]; exact not_le.2 above)
  · refine List.eq_nil_iff_forall_not_mem.2 fun c mem => (apart.pending c mem).2.2 (base ?_)
    exact level ▸ waits c mem

/-- The pop of a clear-ready SENSOR_FAULT over BASE (R63, R165). -/
theorem State.pop_of_sensorFault (stack : s.prot.stack = [x, Context.base]) (pending : s.prot.pendingSet = [])
    (ready : x.clearReady = true) (own : x.cls = .sensorFault) {m : Measurement}
    (m_eq : m = (x.channels.foldl State.returnChannel s).meas) : s.pop = State.alert { s with
      meas := m
      prot := { s.prot with stack := [Context.base] } } .contextCleared [6] := by
  rw [(popsAndPendingTakes.1 s x _ stack).2.1 ready own]
  dsimp only
  rw [pending, List.erase_nil, ite_self, ← pending, ← m_eq]
  rw [State.pop_of_waiting (x := Context.base) (rest := []) (by simp) rfl]
  exact State.promotePending_of_waits fun c mem => absurd mem (by simp [pending])

theorem State.judgeAcknowledge_taken {a : Nat} (taken : s.acknowledgeTaken a = true) :
    s.judgeAcknowledge a = s.readyAndPop .sensorFault := if_pos taken

/-- A taken ACKNOWLEDGE with SENSOR_FAULT on top pops it (R63, R164). -/
theorem State.judgeAcknowledge_top (inv : s.StackInv) (mem : x ∈ s.prot.stack) (own : x.cls = .sensorFault) {a : Nat}
    (taken : s.acknowledgeTaken a = true) (top : s.prot.top = .sensorFault) : s.judgeAcknowledge a = State.alert { s with
      meas := (x.channels.foldl State.returnChannel s).meas
      prot := { s.prot with stack := [Context.base] } } .contextCleared [6] := by
  obtain ⟨apart, waits⟩ := State.stackInv_iff.1 inv
  obtain ⟨stack, pending⟩ := apart.sensorFault_top waits mem own top
  rw [State.judgeAcknowledge_taken taken, State.readyAndPop,
    (Protection.rising_of_stackOrdered apart.ordered).map_ready_of_cons stack own]
  have returned (u : State) (same : u.meas = s.meas) :
      (x.channels.foldl State.returnChannel s).meas = (x.channels.foldl State.returnChannel u).meas := by
    rw [returnChannels_eq x.channels (s := s) same]
  exact State.pop_of_sensorFault (x := { x with clearReady := true })
    (s := { s with prot := { s.prot with stack := [{ x with clearReady := true }, Context.base] } })
    rfl pending rfl own (returned _ rfl)

/-- A taken ACKNOWLEDGE under another top that is not clear-ready makes the context clear-ready and no more (R164). -/
theorem State.judgeAcknowledge_below (inv : s.StackInv) {a : Nat} (taken : s.acknowledgeTaken a = true)
    (top : s.prot.top ≠ .sensorFault) (waiting : s.prot.stack.head?.map Context.clearReady = some false) :
    s.judgeAcknowledge a = { s with prot := { s.prot with stack := s.prot.stack.map fun y =>
      if y.cls = .sensorFault then { y with clearReady := true } else y } } := by
  obtain ⟨apart, waits⟩ := State.stackInv_iff.1 inv
  rw [State.judgeAcknowledge_taken taken, State.readyAndPop]
  cases stack : s.prot.stack with
  | nil => simp [stack] at waiting
  | cons y rest =>
    have other : y.cls ≠ .sensorFault := Protection.top_of_cons stack ▸ top
    have kept : (y :: rest).map (fun z => if z.cls = .sensorFault then { z with clearReady := true } else z) =
        y :: rest.map (fun z => if z.cls = .sensorFault then { z with clearReady := true } else z) := by
      rw [List.map_cons, if_neg other]
    rw [kept, State.pop_of_waiting (x := y) (rest := rest.map _) rfl (by simpa [stack] using waiting)]
    refine State.promotePending_of_waits fun c mem => ?_
    have above := waits c mem
    rw [Protection.topLevel, Protection.top_of_cons stack] at above
    exact above

theorem State.judgeAcknowledge_refused {a : Nat} (refuses : s.acknowledgeTaken a = false) :
    s.judgeAcknowledge a = s.refuseOrder := by simp [State.judgeAcknowledge, refuses]

end

end Sys2Proof.Machine

open Sys2Proof Sys2Proof.Machine

/-- Settles O32. -/
theorem stopOrders : Obligations.StopOrders := by
  intro s p a accepting order inv
  obtain ⟨n, body⟩ := order.body
  have about : Instr.stop.about p.body = true := by rw [body]; rfl
  obtain ⟨t, run, geo, follows⟩ := exec_order_follows about accepting order (.inl rfl) (by simp [ownerOf])
    (by simpa [ownerOf, State.accepted, State.acceptPost, State.freeAbsorber] using accepting.1)
  have kept : (ownerOf .stop a (s.accepted p)).geo = s.geo := by simp [ownerOf, State.accepted, State.acceptPost, State.freeAbsorber]
  rw [kept] at geo
  have unpending : ProtClass.stop ∉ s.prot.pendingSet := fun mem => ((State.stackInv_iff.1 inv).1.pending _ mem).2.1 rfl
  simp only [ownerOf] at follows
  refine ⟨fun off undeferred free => ?_, fun off undeferred running flying => ?_, fun known => ?_⟩
  · rw [State.receiveStop_taken (by exact accepting.1) (by exact off) (by exact undeferred) (by exact free),
      State.take_stop (by exact unpending)] at follows
    have on : t.prot.onStack .stop = true := by
      rw [follows.onStack (by decide)]
      simp [Protection.onStack]
    exact ⟨t, run, geo, on, State.brakeRequest_iff.2 (.inr (.inl on)), follows⟩
  · rw [State.receiveStop_deferred (by exact off) (by exact undeferred) (by exact running) (by exact flying)] at follows
    exact ⟨t, run, geo, follows⟩
  · rw [State.receiveStop_again (by exact accepting.1) (by exact known)] at follows
    exact ⟨t, run, geo, follows⟩

/-- Settles O33. -/
theorem releaseOrders : Obligations.ReleaseOrders := by
  intro s p a accepting host order inv
  obtain ⟨n, body⟩ := order.body
  have about : Instr.release.about p.body = true := by rw [body]; rfl
  obtain ⟨t, run, geo, follows⟩ := exec_order_follows_host about accepting host order (by simp [ownerOf])
    (by simpa [ownerOf, State.accepted, State.acceptPost, State.freeAbsorber] using accepting.1)
  simp only [ownerOf] at follows
  obtain ⟨apart, -⟩ := State.stackInv_iff.1 inv
  have rising := Protection.rising_of_stackOrdered apart.ordered
  refine ⟨fun x rest stack own standing inactive => ?_, fun refused => ?_⟩
  · have on : s.prot.onStack .stop = true := Protection.onStack_iff.2 ⟨x, by simp [stack], own⟩
    rw [State.judgeRelease_taken (by exact on) (by exact standing) (by exact inactive), State.readyAndPop,
      rising.map_ready_of_cons stack own] at follows
    refine ⟨t, run, geo, ?_, follows⟩
    rw [follows.onStack (by decide)]
    refine Bool.eq_false_iff.2 fun popped => ?_
    obtain on | mem := State.onStack_of_pop popped
    · obtain ⟨y, mem, same⟩ := Protection.onStack_iff.1 on
      have below : y ∈ rest := (List.dropWhile_sublist _).subset mem
      exact rising.ne_of_cons stack below (same.trans own.symm)
    · exact (apart.pending _ mem).2.1 rfl
  · rw [State.judgeRelease_refused (by exact refused)] at follows
    exact ⟨t, run, geo, follows⟩

/-- Settles O34: on top SENSOR_FAULT has BASE alone below it, and nothing can wait above. -/
theorem acknowledgeOrders : Obligations.AcknowledgeOrders := by
  intro s p a accepting host order inv faults
  obtain ⟨n, body⟩ := order.body
  have about : Instr.acknowledge.about p.body = true := by rw [body]; rfl
  obtain ⟨t, run, geo, follows⟩ := exec_order_follows_host about accepting host order (by simp [ownerOf])
    (by simpa [ownerOf, State.accepted, State.acceptPost, State.freeAbsorber] using accepting.1)
  simp only [ownerOf] at follows
  obtain ⟨apart, waits⟩ := State.stackInv_iff.1 inv
  have rising := Protection.rising_of_stackOrdered apart.ordered
  refine ⟨fun x mem own code ripe good => ?_, fun refused => ?_⟩
  · have taken := (State.acknowledgeTaken_iff rising a mem own).2 ⟨code, ripe, good⟩
    refine ⟨fun top => ?_, fun top waiting => ?_⟩
    · rw [State.judgeAcknowledge_top (by exact inv) (by exact mem) own (by exact taken) (by exact top)] at follows
      have returned : (x.channels.foldl State.returnChannel { s with peers := t.peers }).meas =
          (x.channels.foldl State.returnChannel s).meas := by
        rw [returnChannels_eq x.channels (s := s) (t := { s with peers := t.peers }) rfl]
      rw [returned] at follows
      have meas : t.meas = (x.channels.foldl State.returnChannel s).meas := by
        obtain ⟨-, -, -, meas, -⟩ := follows
        exact meas.trans (by simp)
      rw [← meas] at follows
      have converting := foldl_keeps (fun u => u.meas.converting) State.returnChannel (fun _ _ => rfl) x.channels s
      exact ⟨t, run, geo, fun k => (congrArg (·.channels.get k) meas).trans (State.returnChannels_get x.channels s k),
        fun k => by rw [meas, State.mem_returnChannels x.channels faults.1], (congrArg _ meas).trans converting, follows⟩
    · rw [State.judgeAcknowledge_below (by exact inv) (by exact taken) (by exact top) (by exact waiting)] at follows
      exact ⟨t, run, geo, follows⟩
  · have refuses : s.acknowledgeTaken a = false := by
      rcases refused with other | off | ⟨x, mem, own, early⟩
      · exact State.acknowledgeTaken_of_other other
      · exact State.acknowledgeTaken_of_off off a
      · refine Bool.eq_false_iff.2 fun taken => ?_
        obtain ⟨-, ripe, good⟩ := (State.acknowledgeTaken_iff rising a mem own).1 taken
        rcases early with held | ⟨c, listed, short⟩
        · exact held.ne' ripe
        · exact (good c listed).not_gt short
    rw [State.judgeAcknowledge_refused (by exact refuses)] at follows
    exact ⟨t, run, geo, follows⟩

end

section
/-! SUPPORT. A warm restart in equations (R38, R52, R64, R169). -/

namespace Sys2Proof.Machine

section
variable {s : State}

/-! ### The raises of a restart (R64, log 21) -/

/-- Right after a take of SENSOR_FAULT its refresh by a channel of the fault-order list changes nothing. -/
theorem State.refresh_take_sensorFault (off : s.prot.onStack .sensorFault = false) {c : Channel}
    (listed : c ∈ s.meas.faultOrder) :
    (s.take .sensorFault).raiseWith false .sensorFault (some c) = s.take .sensorFault := by
  have on : (s.take .sensorFault).prot.onStack .sensorFault = true := by
    rw [State.take_prot]
    simp [Protection.onStack, State.newContext]
  have same : (s.take .sensorFault).prot.stack.map (fun x => if x.cls = .sensorFault then x.refresh (some c) else x) =
      (s.take .sensorFault).prot.stack := by
    rw [State.take_prot]
    have rest : s.prot.stack.map (fun x => if x.cls = .sensorFault then x.refresh (some c) else x) = s.prot.stack :=
      (List.map_congr_left fun x mem => if_neg (Protection.onStack_eq_false_iff.1 off x mem)).trans (List.map_id _)
    rw [List.map_cons, rest, if_pos (show (s.newContext .sensorFault).cls = .sensorFault from rfl)]
    simp [State.newContext, Context.refresh, listed]
  rw [State.raiseWith_of_onStack on, State.refresh, same]

theorem State.restartFaults_eq (off : s.prot.onStack .sensorFault = false) (pending : s.prot.pendingSet = [])
    (deferred : s.prot.deferredSet = []) (top : s.prot.top = .base) :
    s.meas.faultOrder.foldl (fun t c => t.raiseWith false .sensorFault (some c)) s =
      if s.meas.faultOrder = [] then s else s.take .sensorFault := by
  have again (l : List Channel) (listed : ∀ c ∈ l, c ∈ s.meas.faultOrder) :
      l.foldl (fun t c => t.raiseWith false .sensorFault (some c)) (s.take .sensorFault) = s.take .sensorFault := by
    induction l with
    | nil => rfl
    | cons c rest ih =>
      rw [List.foldl_cons, State.refresh_take_sensorFault off (listed c List.mem_cons_self)]
      exact ih fun d mem => listed d (List.mem_cons_of_mem _ mem)
  cases faults : s.meas.faultOrder with
  | nil => rfl
  | cons c rest =>
    have first : s.raiseWith false .sensorFault (some c) = s.take .sensorFault :=
      State.raiseWith_of_below off (by simp [pending]) (by simp [deferred])
        (by rw [Protection.topLevel, top]; decide)
    rw [List.foldl_cons, first, again rest fun d mem => by simp [faults, mem]]
    simp

/-- The raises of a restart on a cold stack and an empty urgent queue: SENSOR_FAULT for the faulted channels, STOP for the
stop line. -/
theorem State.restartRaises_eq {stopped : Bool} (cold : s.prot = { Protection.cold with stopLine := stopped })
    (urgent : s.bus.urgent = []) (state : s.station.state ≠ .isolated) : s.restartRaises = { s with
      bus := { s.bus with urgent :=
        (if s.meas.faultOrder = [] then [] else [.alert .contextTaken (6 :: s.meas.faultOrder.map Channel.code)])
          ++ (if stopped = true then [.alert .stopTaken []] else []) }
      counters := if stopped = true then s.counters.bump .stopTakes else s.counters
      prot := { Protection.cold with
        stopLine := stopped
        stack := (if stopped = true then [⟨.stop, s.bus.seq, s.gov.uRef, s.gov.output, 0, false, []⟩] else [])
          ++ (if s.meas.faultOrder = [] then []
            else [⟨.sensorFault, s.bus.seq, s.gov.uRef, s.gov.output, 400, false, s.meas.faultOrder⟩])
          ++ [Context.base] } } := by
  have raised := State.restartFaults_eq (s := s) (by rw [cold]; rfl) (by rw [cold]; rfl) (by rw [cold]; rfl)
    (by rw [cold]; rfl)
  have fault : s.take .sensorFault = { s with
      bus := { s.bus with urgent := [.alert .contextTaken (6 :: s.meas.faultOrder.map Channel.code)] }
      prot := { Protection.cold with
        stopLine := stopped
        stack := [⟨.sensorFault, s.bus.seq, s.gov.uRef, s.gov.output, 400, false, s.meas.faultOrder⟩, Context.base] } } := by
    simp only [State.take, State.offerUrgent, cold, urgent, if_neg state]
    rfl
  rw [State.restartRaises, raised]
  by_cases none : s.meas.faultOrder = []
  · simp only [if_pos none]
    cases stopped with
    | false =>
      rw [if_neg (by simp [cold])]
      calc s = { s with bus := { s.bus with urgent := s.bus.urgent }, prot := s.prot } := rfl
        _ = _ := by rw [urgent, cold]; rfl
    | true =>
      simp only [cold, ite_true, State.take, State.offerUrgent, urgent, if_neg state]
      rfl
  · simp only [if_neg none, fault]
    cases stopped with
    | false => rfl
    | true =>
      simp only [ite_true, State.take, State.offerUrgent, if_neg state]
      rfl

/-! ### The report after a restart (R31) -/

/-- In LISTEN, with nothing pending and no payload posted, a report judges nothing. -/
theorem State.report31_listen (listen : s.station.state = .listen) (pending : s.prot.pendingSet = [])
    (payload : s.demand.demand.payload = none) : s.report31 = { s with
      load := { s.load with percentage := none, payloadClass := .unknown, standing := s.demand.standing }
      reports := s.reports + 1 } := by
  have erased (c : ProtClass) : s.prot.pendingSet.erase c = s.prot.pendingSet := by simp [pending]
  have class_eq : s.classifyPayload = { s with
      load := { s.load with percentage := none, payloadClass := .unknown, standing := s.demand.standing } } := by
    simp [State.classifyPayload, payload, classify]
  unfold State.report31
  simp [class_eq, State.peerLoss, listen, StationState.driven, StationState.live, State.judge, State.withdraw, erased]

/-- The whole of what follows a post of the host that has led to LISTEN. -/
theorem State.afterAcceptance_listen (listen : s.station.state = .listen) (pending : s.prot.pendingSet = [])
    (payload : s.demand.demand.payload = none) : s.afterAcceptance .s0 = { s with
      geo := s.geometry
      load := { s.load with percentage := none, payloadClass := .unknown, standing := s.demand.standing }
      reports := s.reports + 1 } := by
  have after : s.afterAcceptance .s0 = s.recomputeGeometry.report31 := by
    simp [State.afterAcceptance, listen, StationState.live]
  exact after.trans (State.report31_listen listen pending payload)

theorem TxRegister.bind_warm (tx : Option TxRegister) : tx.bind TxRegister.warm = (match tx with
    | some ⟨b, seq, some bytes, _⟩ => some ⟨b, seq, some bytes, true⟩
    | _ => none) := by
  obtain _ | ⟨b, seq, _ | bytes, last⟩ := tx <;> rfl

theorem geometryOf_absent (orphan : Nat) (side : Side) (r : CommRecord) :
    geometryOf (demandInForce .absent orphan) side r = ⟨0, 0, 4096, .straight, none, false, 0⟩ := by
  simp [geometryOf, demandInForce, PeerEntry.absent, PeerEntry.demandRecord, DemandRecord.none]

/-! ### RESTART (R51, R52) -/

theorem State.judgeRestart_taken (state : s.station.state = .ready ∨ s.station.state = .held ∨ s.station.state = .tripped)
    (standing : s.gov.uRef.natAbs ≤ 30) (straps : Fin 8) : s.judgeRestart straps = s.warmRestart straps := by
  have taken : s.restartTaken = true := by
    rcases state with eq | eq | eq <;> simp [State.restartTaken, State.standing, eq, standing]
  simp [State.judgeRestart, taken]

end

end Sys2Proof.Machine

open Sys2Proof Sys2Proof.Machine

/-- Settles O36. -/
theorem restartOrders : Obligations.RestartOrders := by
  intro straps s p a accepting host order
  obtain ⟨n, body⟩ := order.body
  have about : (Instr.restart straps).about p.body = true := by rw [body]; rfl
  refine ⟨fun state standing => ?_, fun refused => ?_⟩
  · have run : exec (.restart straps) s = .next (((s.accepted p).warmRestart straps).afterAcceptance .s0) := by
      rw [exec_of_accepting about accepting, routeOf_of_order (body ▸ about),
        routeOrder_of_orderFor order (.inr host), host]
      simp only [ownerOf, State.judgeRestart_taken (s := s.accepted p) state standing]
    refine ⟨fun same => ⟨_, run, ?_⟩, fun differ => ⟨_, run, ?_⟩⟩
    · have warm : (s.accepted p).warmRestart straps = (State.startSelfCheck
          { (s.accepted p).warmValues.recomputeGeometry with pins := { s.pins with straps := straps } }).restartRaises :=
        if_pos same
      rw [warm, State.restartRaises_eq (stopped := s.prot.stopLine) rfl rfl
          (show StationState.listen ≠ .isolated by decide),
        State.afterAcceptance_listen rfl rfl rfl]
      refine ⟨rfl, rfl, ?_, ?_, rfl, rfl, geometryOf_absent _ _ _, rfl, rfl, rfl, ?_, rfl⟩
      · show BusPort.mk (s.bus.tx.bind TxRegister.warm) _ _ _ _ _ _ _ _ _ _ _ = _
        rw [TxRegister.bind_warm]
        rfl
      · rfl
      · rfl
    · have isolated : (s.accepted p).warmRestart straps = State.isolate
          { (s.accepted p).warmValues.recomputeGeometry with pins := { s.pins with straps := straps } } .strap :=
        if_neg differ
      rw [isolated]
      refine ⟨rfl, rfl, rfl, rfl, rfl, rfl, rfl, rfl, rfl, rfl, rfl, rfl, rfl⟩
  · have off : (s.station.state ≠ .ready ∧ s.station.state ≠ .held ∧ s.station.state ≠ .tripped) ∨
        30 < s.gov.uRef.natAbs := by
      rcases refused with eq | eq | eq | moving
      · simp [eq]
      · simp [eq]
      · simp [eq]
      · exact .inr moving
    obtain ⟨t, run, geo, follows⟩ := exec_order_follows_host about accepting host order
      (by simp only [ownerOf]; rw [State.judgeRestart_refused (by exact off)]; rfl)
      (by simp only [ownerOf]; rw [State.judgeRestart_refused (by exact off)]; exact accepting.1)
    simp only [ownerOf] at follows
    rw [State.judgeRestart_refused (by exact off)] at follows
    exact ⟨t, run, geo, follows⟩

end

section
/-! SUPPORT. An expiry of the age clock (R30, R31, R37, R43): its report does not read the fault line, the listen counter
and the own-number-heard marker, so the work after the report may be told before it. -/

namespace Sys2Proof.Machine

/-- The state with the fault line shown, the listen counter set and the own-number-heard marker cleared: what an expiry
does after its report. -/
def State.noted (s : State) (pins : Pins) (n : Nat) : State :=
  { s with
    pins := pins
    station := { s.station with listenCounter := n }
    peers := { s.peers with ownHeard := false } }

section
variable (s : State) (pins : Pins) (n : Nat)

theorem State.offerUrgent_noted (b : Body) : (s.noted pins n).offerUrgent b = (s.offerUrgent b).noted pins n := by
  unfold State.offerUrgent
  simp only [apply_ite (fun t : State => t.noted pins n)]
  rfl

theorem State.take_noted (c : ProtClass) : (s.noted pins n).take c = (s.take c).noted pins n := by
  have offered := State.offerUrgent_noted { s with prot := { s.prot with
    stack := s.newContext c :: s.prot.stack, pendingSet := s.prot.pendingSet.erase c } } pins n
    (takeAlert c (s.newContext c).channels)
  unfold State.take
  split
  · exact congrArg (fun t => t.bump .stopTakes) offered
  · exact offered

theorem State.raiseWith_noted (f : Bool) (c : ProtClass) (ch : Option Channel) :
    (s.noted pins n).raiseWith f c ch = (s.raiseWith f c ch).noted pins n := by
  unfold State.raiseWith
  rw [State.take_noted]
  simp only [apply_ite (fun t : State => t.noted pins n)]
  rfl

theorem State.judge_noted (c : ProtClass) (holds : Bool) :
    (s.noted pins n).judge c holds = (s.judge c holds).noted pins n := by
  have raised := s.raiseWith_noted pins n s.inFlight c none
  unfold State.judge State.raise
  simp only [apply_ite (fun t : State => t.noted pins n), ← raised]
  rfl

theorem State.report31_noted : (s.noted pins n).report31 = s.report31.noted pins n := by
  unfold State.report31
  dsimp only
  simp only [apply_ite (fun t : State => t.noted pins n), ← State.judge_noted]
  rfl

theorem State.noted_of_unheard (unheard : s.peers.ownHeard = false) :
    s.noted pins s.station.listenCounter = { s with pins := pins } := by
  rw [State.noted, ← unheard]

/-- The work after the report, outside the end of LISTEN: the report of the noted state and DUPLICATE_HEARD (R37). -/
theorem State.notes_after_report (line : Bool) : s.report31.duplicateHeard.showFaultLine line =
    if s.peers.ownHeard then
      (s.noted { s.pins with faultLine := line } s.station.listenCounter).report31.alert .duplicateHeard []
    else (s.noted { s.pins with faultLine := line } s.station.listenCounter).report31 := by
  rw [State.report31_noted]
  have pins : s.report31.pins = s.pins := s.report31_pins
  have counter : s.report31.station.listenCounter = s.station.listenCounter := by rw [s.report31_station]
  have heard : s.report31.peers = s.peers := s.report31_peers
  rw [← pins, ← counter, ← heard]
  unfold State.duplicateHeard
  by_cases own : s.report31.peers.ownHeard = true
  · have offered : State.alert { s.report31 with peers := { s.report31.peers with ownHeard := false } }
        .duplicateHeard [] = (s.report31.alert .duplicateHeard []).noted s.report31.pins s.report31.station.listenCounter :=
      s.report31.offerUrgent_noted _ _ _
    rw [if_pos own, if_pos own, offered]
    exact (s.report31.offerUrgent_noted _ _ _).symm
  · rw [if_neg own, if_neg own, State.noted_of_unheard _ _ (by simpa using own)]
    rfl

/-- The state that the report of an expiry reads: the STATE post built, the entries aged, the grace counted (R30, R159). -/
def State.expiring : State := s.buildStatePost.agePeers.recomputeGeometry.countGrace

theorem State.expiring_reads : s.expiring.pins = s.pins ∧ s.expiring.station = s.station ∧
    s.expiring.peers.ownHeard = s.peers.ownHeard := by
  refine ⟨?_, ?_, ?_⟩ <;> simp [State.expiring, State.agePeers]

/-- The report of an expiry, with the fault line, the listen counter and the cleared marker told before it. -/
def State.reported (s : State) (line : Bool) (n : Nat) : State :=
  (s.expiring.noted { s.pins with faultLine := line } n).report31

/-- What an expiry leaves but for the end of LISTEN: the report, and DUPLICATE_HEARD if the marker was set (R37). -/
def State.expired (s : State) (line : Bool) (n : Nat) : State :=
  if s.peers.ownHeard then (s.reported line n).alert .duplicateHeard [] else s.reported line n

@[simp] theorem State.reported_station (line : Bool) (n : Nat) :
    (s.reported line n).station = { s.station with listenCounter := n } := by
  obtain ⟨-, station, -⟩ := s.expiring_reads
  simp [State.reported, State.noted, station]

@[simp] theorem State.expired_station (line : Bool) (n : Nat) :
    (s.expired line n).station = { s.station with listenCounter := n } := by
  unfold State.expired
  split <;> simp

theorem State.reported_withCounter (line : Bool) (n m : Nat) :
    { s.reported line n with station := { s.station with listenCounter := m } } = s.reported line m := by
  obtain ⟨-, station, -⟩ := s.expiring_reads
  simp only [State.reported, State.report31_noted]
  simp [State.noted, station]

theorem State.expired_withCounter (line : Bool) (n m : Nat) :
    { s.expired line n with station := { s.station with listenCounter := m } } = s.expired line m := by
  obtain ⟨-, station, -⟩ := s.expiring_reads
  have alerted (k : Nat) : State.alert (s.reported line k) .duplicateHeard [] =
      (s.expiring.report31.alert .duplicateHeard []).noted { s.pins with faultLine := line } k := by
    rw [State.reported, State.report31_noted]
    exact State.offerUrgent_noted _ _ _ _
  unfold State.expired
  split
  · rw [alerted, alerted]
    simp [State.noted, station]
  · exact s.reported_withCounter line n m

/-- An expiry but for the count of LISTEN: the report of the aged entries, with what follows it told first. -/
theorem State.expirePostPeriod_eq (line : Bool) :
    s.expirePostPeriod line = (s.expired line s.station.listenCounter).countListen := by
  obtain ⟨pins, station, heard⟩ := s.expiring_reads
  have notes := s.expiring.notes_after_report line
  rw [pins, station, heard] at notes
  exact congrArg State.countListen notes

theorem PeerEntry.aged_eq (e : PeerEntry) : e.aged = if e.presence = .absent then e else
    { e with
      age := min 255 (e.age + 1)
      presence := if e.age + 1 ≤ 2 then .fresh else if e.age + 1 ≤ 9 then .aged else .lost } := by
  unfold PeerEntry.aged presenceOfAge countTo
  dsimp only
  split
  · rfl
  · congr 1
    split_ifs <;> first | rfl | omega

theorem State.countGrace_eq : s.countGrace = { s with prot := { s.prot with
    grace := if s.station.state = .run ∨ s.station.state = .held then s.prot.grace - 1 else s.prot.grace } } := by
  unfold State.countGrace
  by_cases driven : s.station.state.driven = true
  · rw [if_pos driven, if_pos (StationState.driven_iff.1 driven)]
  · rw [if_neg driven, if_neg (mt StationState.driven_iff.2 driven)]

theorem State.offerState_eq (b : Body) : s.offerState b = { s with
    bus := { s.bus with stateSlot := some b }
    counters := if s.bus.stateSlot.isSome then s.counters.bump .stateReplacements else s.counters } := by
  unfold State.offerState
  dsimp only
  split <;> rfl

/-- The STATE post field by field (R4). -/
theorem State.stateRecord_eq : s.stateRecord = {
    stationState := s.station.state
    mode := s.gov.mode
    topLevel := match s.prot.stack with
      | x :: _ => x.cls.level
      | [] => 7
    slip := if s.meas.channels.wheelSpeed.faulted then .grip else s.gov.slip
    wheelSpeed := if s.meas.channels.wheelSpeed.faulted then none else some s.meas.channels.wheelSpeed.value
    centreSpeed := if s.meas.channels.wheelSpeed.faulted then none
      else some ((s.meas.channels.wheelSpeed.value * 4096).tdiv s.geo.turnFactor)
    torque := s.gov.output
    offer := s.grid.offer
    gridTemp := match s.grid.theta with
      | some x => (x.tdiv 65536).tdiv 10
      | none => 0
    brake := s.brakeRequest
    tripCause := if s.station.state = .tripped then s.prot.firstCause else none } := by
  have top : s.prot.topLevel = match s.prot.stack with
      | x :: _ => x.cls.level
      | [] => 7 := by
    unfold Protection.topLevel Protection.top
    cases s.prot.stack <;> rfl
  have centre : s.postedWheel.map (fun w => centreSpeed w s.geo.turnFactor) =
      if s.meas.channels.wheelSpeed.faulted then none
      else some ((s.meas.channels.wheelSpeed.value * 4096).tdiv s.geo.turnFactor) := by
    unfold State.postedWheel
    dsimp only
    split <;> rfl
  have temp : (match s.grid.modelTemp with
      | some t => t.tdiv 10
      | none => 0) = match s.grid.theta with
      | some x => (x.tdiv 65536).tdiv 10
      | none => 0 := by
    unfold Grid.modelTemp
    cases s.grid.theta <;> rfl
  rw [← top, ← centre, ← temp]
  rfl

/-- The aged view of an expiry (R30), and what stands beside it in a state that posts. -/
theorem State.expiring_of_posts (posts : s.station.state.posts = true) : s.expiring = { s with
    bus := { s.bus with stateSlot := some (.state s.stateRecord) }
    counters := if s.bus.stateSlot.isSome then s.counters.bump .stateReplacements else s.counters
    peers := { s.peers with entries := s.peers.entries.map PeerEntry.aged, ageClock := s.station.record.postPeriod }
    geo := s.expiring.geo
    prot := { s.prot with
      grace := if s.station.state = .run ∨ s.station.state = .held then s.prot.grace - 1 else s.prot.grace } } := by
  simp only [State.expiring, State.countGrace_eq, State.buildStatePost, if_pos posts, State.offerState_eq]
  rfl

theorem State.expiring_of_listen (listen : s.station.state = .listen) : s.expiring = { s with
    peers := { s.peers with entries := s.peers.entries.map PeerEntry.aged, ageClock := s.station.record.postPeriod }
    geo := s.expiring.geo } := by
  simp only [State.expiring, State.countGrace, State.buildStatePost, listen, StationState.posts, Bool.false_eq_true, ite_false,
    State.recomputeGeometry, State.agePeers, StationState.driven]

theorem State.live_of_posts (posts : s.station.state.posts = true) : s.station.state.live = true := by
  cases state : s.station.state <;> simp_all [StationState.posts, StationState.live]

theorem State.leaveListen_waiting (waits : s.station.listenCounter ≠ 16 ∨ s.station.selfCheckPassed = false) :
    s.leaveListen = s := by
  rcases waits with early | unpassed <;> simp [State.leaveListen, *]

theorem State.countListen_of_other (other : s.station.state ≠ .listen) : s.countListen = s := if_neg other

/-- In LISTEN the counter is counted and LISTEN left if the interval has ended (R43). -/
theorem State.countListen_of_listen (listen : s.station.state = .listen) : s.countListen =
    State.leaveListen { s with station := { s.station with listenCounter := min 16 (s.station.listenCounter + 1) } } :=
  if_pos listen

/-- An expiry in LISTEN, the count told before the report (R43). -/
theorem State.expirePostPeriod_of_listen (listen : s.station.state = .listen) (line : Bool) :
    s.expirePostPeriod line = (s.expired line (min 16 (s.station.listenCounter + 1))).leaveListen := by
  rw [State.expirePostPeriod_eq, State.countListen_of_listen _ (by simpa using listen)]
  have counted := s.expired_withCounter line s.station.listenCounter (min 16 (s.station.listenCounter + 1))
  rw [← counted]
  simp

/-- What an expiry leaves in the geometry record is what its inputs call for (R67). -/
theorem State.reported_geometry (line : Bool) (n : Nat) : (s.reported line n).geo = (s.reported line n).geometry :=
  (State.recomputeGeometry_kept s.buildStatePost.agePeers).of_view (by
    have station : (s.reported line n).station.rest = s.buildStatePost.agePeers.recomputeGeometry.station.rest := by
      rw [State.reported_station]
      simp [Station.rest]
    refine State.view_inj.2 ⟨?_, ?_, station⟩ <;> simp [State.reported, State.noted, State.expiring])

/-! ### The end of LISTEN (R43) -/

/-- Two states that agree but for what alerts and the judgements of a report write, the stack and its sets among it. -/
structure State.Quiet (s t : State) : Prop where
  meas : t.meas = s.meas
  gov : t.gov = s.gov
  grid : t.grid = s.grid
  bus : t.bus = { s.bus with urgent := t.bus.urgent }
  urgent : s.bus.urgent <+: t.bus.urgent
  counters : t.counters = { s.counters with urgentOverflows := t.counters.urgentOverflows }
  prot : t.prot = { s.prot with
    stack := t.prot.stack, pendingSet := t.prot.pendingSet, deferredSet := t.prot.deferredSet }
  accumulator : t.load.accumulator = s.load.accumulator
  derate : t.load.derate = s.load.derate

theorem State.Quiet.alert {s t : State} (h : s.Quiet t) (k : AlertKind) (args : List Nat) : s.Quiet (t.alert k args) := by
  have keeps := t.offerUrgent_reportKeeps (.alert k args)
  have bus := BusPort.eq_of_rest (t.alert_bus_rest k args)
  have counters := Counters.eq_of_rest (t.alert_counters_rest k args) keeps.stopTakes
  exact ⟨by simp [h.meas], by simp [h.gov], by simp [h.grid], bus.trans (by rw [h.bus]), h.urgent.trans keeps.urgent,
    counters.trans (by rw [h.counters]), by simpa using h.prot, by simp [h.accumulator], by simp [h.derate]⟩

theorem State.Quiet.refl (s : State) : s.Quiet s := ⟨rfl, rfl, rfl, rfl, List.prefix_refl _, rfl, rfl, rfl, rfl⟩

/-- Where no trip follows, a governor, causes and counters as they were. -/
theorem State.Quiet.untripped {s t : State} (quiet : s.Quiet t) : t.gov = s.gov ∧
    t.prot.firstCause = s.prot.firstCause ∧ t.prot.causes = s.prot.causes ∧ t.prot.heldReason = s.prot.heldReason ∧
    t.counters = { s.counters with urgentOverflows := t.counters.urgentOverflows } :=
  ⟨quiet.gov, by rw [quiet.prot], by rw [quiet.prot], by rw [quiet.prot], quiet.counters⟩

theorem State.ReportFollows.quiet {a t : State} (h : State.ReportFollows a t) : a.Quiet t := by
  obtain ⟨-, -, -, meas, gov, grid, -, load, -, bus, urgent, counters, prot, -⟩ := h
  exact ⟨meas, gov, grid, bus, urgent, counters, prot, by rw [load], by rw [load]⟩

/-- What an expiry in LISTEN leaves beside station and entries. -/
theorem State.expired_quiet (listen : s.station.state = .listen) (line : Bool) (n : Nat) : s.Quiet (s.expired line n) := by
  have follows : State.Quiet s (s.reported line n) := by
    rw [State.reported, State.expiring_of_listen s listen]
    have reported := State.ReportFollows.quiet (State.report31_reportFollows
      (a := { s with
        pins := { s.pins with faultLine := line }
        station := { s.station with listenCounter := n }
        peers := { s.peers with
          entries := s.peers.entries.map PeerEntry.aged, ageClock := s.station.record.postPeriod, ownHeard := false } })
      (by exact (by rw [listen]; rfl : s.station.state.live = true)) s.expiring.geo)
    exact ⟨reported.meas, reported.gov, reported.grid, reported.bus, reported.urgent, reported.counters, reported.prot,
      reported.accumulator, reported.derate⟩
  unfold State.expired
  split
  · exact follows.alert _ _
  · exact follows

theorem State.expired_pins (line : Bool) (n : Nat) : (s.expired line n).pins = { s.pins with faultLine := line } := by
  unfold State.expired
  split <;> simp [State.reported, State.noted]

theorem State.expired_peers (line : Bool) (n : Nat) : (s.expired line n).peers = { s.peers with
    entries := s.peers.entries.map PeerEntry.aged, ownHeard := false, ageClock := s.station.record.postPeriod } := by
  unfold State.expired
  split <;> simp [State.reported, State.noted, State.expiring, State.agePeers]

theorem State.expired_geometry (line : Bool) (n : Nat) : (s.expired line n).geo = (s.expired line n).geometry := by
  unfold State.expired
  split
  · exact State.GeometryKept.of_view (s.reported_geometry line n) (by simp [State.view])
  · exact s.reported_geometry line n

end

end Sys2Proof.Machine

open Sys2Proof Sys2Proof.Machine

/-- Settles O41. -/
theorem postPeriodExpiries : Obligations.PostPeriodExpiries := by
  intro line s
  have run (live : s.station.state.live = true) : exec (.postPeriodExpiry line) s = .next (s.expirePostPeriod line) :=
    if_pos live
  refine ⟨fun posts => ⟨s.reported line s.station.listenCounter, ?_, s.reported_geometry line _, ?_⟩,
    fun listen stays => ⟨s.reported line (min 16 (s.station.listenCounter + 1)), ?_, s.reported_geometry line _, ?_⟩⟩
  · have other : s.station.state ≠ .listen := fun eq => by rw [eq] at posts; cases posts
    rw [run (State.live_of_posts s posts), State.expirePostPeriod_eq, State.countListen_of_other _ (by simpa using other)]
    rfl
  · rw [State.reported, State.expiring_of_posts s posts, State.stateRecord_eq]
    simp only [PeerEntry.aged_eq, Peers.map]
    exact State.report31_reportFollows (by exact State.live_of_posts s posts) s.expiring.geo
  · rw [run (by rw [listen]; rfl), State.expirePostPeriod_of_listen s listen, State.leaveListen_waiting]
    · rfl
    · rw [State.expired_station]
      exact stays.imp (fun early => by dsimp only; omega) id
  · rw [State.reported, State.expiring_of_listen s listen]
    simp only [PeerEntry.aged_eq, Peers.map]
    exact State.report31_reportFollows (by rw [listen]; rfl) s.expiring.geo


/-- Settles O42: the station leaves LISTEN from what the expiry left, with an alert if it trips. -/
theorem listenIntervalEnds : Obligations.ListenIntervalEnds := by
  intro line s listen counted
  have run : exec (.listenIntervalEnd line) s = .next (s.expired line 16).leaveListen := by
    have ended : exec (.listenIntervalEnd line) s = .next (s.expirePostPeriod line) := if_pos ⟨listen, counted⟩
    rw [ended, State.expirePostPeriod_of_listen s listen, counted]
    rfl
  have again : exec (.postPeriodExpiry line) s = .next (s.expired line 16).leaveListen := by
    have expiry : exec (.postPeriodExpiry line) s = .next (s.expirePostPeriod line) := if_pos (by rw [listen]; rfl)
    rw [expiry, State.expirePostPeriod_of_listen s listen, counted]
    rfl
  have quiet := s.expired_quiet listen line 16
  have station := s.expired_station line 16
  have pins := s.expired_pins line 16
  have peers := s.expired_peers line 16
  have geometry := s.expired_geometry line 16
  simp only [PeerEntry.aged_eq, Peers.map] at peers
  rw [run]
  generalize s.expired line 16 = v at quiet station pins peers geometry again ⊢
  have counter : v.station.listenCounter = 16 := by rw [station]
  have asserted : v.pins.faultLine = line := by rw [pins]
  refine ⟨again, _, rfl, ?_⟩
  have untripped := quiet.untripped
  cases passed : s.station.selfCheckPassed
  · rw [State.leaveListen_waiting _ (.inr (by rw [station, passed]))]
    refine ⟨by rw [station]; dsimp only; rw [listen]; rfl, fun tripped => ?_, fun _ => ?_, quiet.bus, quiet.urgent, pins, peers, geometry,
      quiet.meas, quiet.grid, quiet.accumulator, quiet.derate, by rw [quiet.prot]⟩
    · rw [station] at tripped; exact absurd (listen.symm.trans tripped) (by decide)
    · exact untripped
  have passedNow : v.station.selfCheckPassed = true := by rw [station]; exact passed
  cases locked : s.station.locked
  · rw [State.leaveListen_unlocked counter passedNow (by rw [station, locked])]
    exact ⟨by rw [station]; rfl, fun tripped => (nomatch tripped), fun _ => untripped, quiet.bus, quiet.urgent, pins,
      peers, geometry, quiet.meas, quiet.grid, quiet.accumulator, quiet.derate, by rw [quiet.prot]⟩
  rw [State.leaveListen_locked counter passedNow (by rw [station, locked])]
  cases line
  · rw [State.enterReady_inactive asserted]
    exact ⟨by rw [station]; rfl, fun tripped => (nomatch tripped), fun _ => untripped, quiet.bus, quiet.urgent, pins,
      peers, geometry, quiet.meas, quiet.grid, quiet.accumulator, quiet.derate, by rw [quiet.prot]⟩
  · rw [State.enterReady_asserted asserted]
    have grace : v.prot.grace = s.prot.grace := by rw [quiet.prot]
    have trips : v.counters.overcurrentTrips = s.counters.overcurrentTrips := by rw [quiet.counters]
    have told := (State.Quiet.refl { v with
      station := { v.station with state := .tripped }
      gov := { v.gov with mode := .coast, update := v.gov.update.map fun u => { u with discarded := true } }
      prot := { v.prot with firstCause := some .overcurrent, causes := [.overcurrent], heldReason := false }
      counters := v.counters.bump .overcurrentTrips }).alert .trip [1]
    refine ⟨by simp [station], fun _ => ⟨by rw [told.prot], by rw [told.prot], ?_⟩, fun other => (other (by simp)).elim,
      told.bus.trans (by rw [quiet.bus]), quiet.urgent.trans told.urgent, by simpa using pins, by simpa using peers, ?_,
      told.meas.trans quiet.meas, told.grid.trans quiet.grid, told.accumulator.trans quiet.accumulator,
      told.derate.trans quiet.derate, by rw [told.prot]; exact grace⟩
    · rw [told.counters]
      exact congrArg (fun n => min 65535 (n + 1)) trips
    · exact State.GeometryKept.of_view (s := v) geometry (by simp [State.view, Station.rest_inj])

end

section
/-! SUPPORT. A superframe completion (R127 to R139): what judgements do beside stack and sets, and the steps of the grid
section one after the other. -/

namespace Sys2Proof.Machine

/-- The state with other grid and measurement units, which no judgement and no offer reads. -/
def State.withUnits (s : State) (g : Grid) (m : Measurement) : State := { s with grid := g, meas := m }

section
variable (s : State) (g : Grid) (m : Measurement)

theorem State.offerUrgent_withUnits (b : Body) : (s.withUnits g m).offerUrgent b = (s.offerUrgent b).withUnits g m := by
  unfold State.offerUrgent
  simp only [apply_ite (fun t : State => t.withUnits g m)]
  rfl

theorem State.take_withUnits {c : ProtClass} (same : c = .sensorFault → m.faultOrder = s.meas.faultOrder) :
    (s.withUnits g m).take c = (s.take c).withUnits g m := by
  have context : (s.withUnits g m).newContext c = s.newContext c := by
    unfold State.newContext
    split
    next own => simp [same own, State.withUnits]
    · rfl
  have offered := State.offerUrgent_withUnits { s with prot := { s.prot with
    stack := s.newContext c :: s.prot.stack, pendingSet := s.prot.pendingSet.erase c } } g m
    (takeAlert c (s.newContext c).channels)
  unfold State.take
  rw [context]
  split
  · exact congrArg (fun t => t.bump .stopTakes) offered
  · exact offered

theorem State.raiseWith_withUnits (f : Bool) {c : ProtClass} (same : c = .sensorFault → m.faultOrder = s.meas.faultOrder) (ch : Option Channel) :
    (s.withUnits g m).raiseWith f c ch = (s.raiseWith f c ch).withUnits g m := by
  unfold State.raiseWith
  rw [State.take_withUnits s g m same]
  simp only [apply_ite (fun t : State => t.withUnits g m)]
  rfl

theorem State.judge_withUnits {c : ProtClass} (same : c = .sensorFault → m.faultOrder = s.meas.faultOrder) (holds : Bool) :
    (s.withUnits g m).judge c holds = (s.judge c holds).withUnits g m := by
  have raised := s.raiseWith_withUnits g m s.inFlight same none
  unfold State.judge State.raise
  simp only [apply_ite (fun t : State => t.withUnits g m), ← raised]
  rfl

end

/-! ### What a judgement keeps -/

section
variable {c : ProtClass} (s : State) (ne : c ≠ .stop)
include ne

theorem State.take_quiet : s.Quiet (s.take c) := by
  have pushed : s.Quiet { s with prot := { s.prot with
      stack := s.newContext c :: s.prot.stack, pendingSet := s.prot.pendingSet.erase c } } :=
    ⟨rfl, rfl, rfl, rfl, List.prefix_refl _, rfl, rfl, rfl, rfl⟩
  unfold State.take
  rw [if_neg ne]
  unfold takeAlert
  split <;> exact pushed.alert _ _

theorem State.raiseWith_quiet (f : Bool) (ch : Option Channel) : s.Quiet (s.raiseWith f c ch) := by
  have written (stack : List Context) (pending deferred : List ProtClass) : s.Quiet { s with prot := { s.prot with
      stack := stack, pendingSet := pending, deferredSet := deferred } } :=
    ⟨rfl, rfl, rfl, rfl, List.prefix_refl _, rfl, rfl, rfl, rfl⟩
  unfold State.raiseWith
  split_ifs
  · exact written _ _ _
  · exact .refl s
  · exact written _ _ _
  · exact s.take_quiet ne
  · exact written _ _ _

theorem State.judge_quiet (holds : Bool) : s.Quiet (s.judge c holds) := by
  unfold State.judge State.raise
  split_ifs
  · exact s.raiseWith_quiet ne _ _
  · exact .refl s
  · exact ⟨rfl, rfl, rfl, rfl, List.prefix_refl _, rfl, rfl, rfl, rfl⟩
  · exact .refl s

end

/-- An ALERT that leaves room in the urgent queue is its newest post. -/
theorem State.alert_getLast (s : State) (here : s.station.state ≠ .isolated) {k : AlertKind} {args : List Nat}
    (room : (s.alert k args).bus.urgent.length < 4) : (s.alert k args).bus.urgent.getLast? = some (.alert k args) := by
  obtain ⟨dead, -⟩ | ⟨-, -, told⟩ | ⟨-, full, told⟩ := s.offerUrgent_cases (.alert k args)
  · exact (here dead).elim
  · rw [State.alert, told]
    simp
  · rw [State.alert, told] at room
    exact absurd room (Nat.not_lt.2 full)

/-! ### A trip cause received -/

/-- A cause received in READY, RUN and HELD: the trip, with the departure's governor and measurement units (R174). -/
theorem State.receiveCause_trips (s : State) (cause : TripCause)
    (running : s.station.state = .ready ∨ s.station.state = .run ∨ s.station.state = .held) : ∃ meas gov,
    (s.receiveCause cause).station = { s.station with state := .tripped } ∧
    (s.receiveCause cause).prot = { s.prot with
      firstCause := some cause, causes := [cause], heldReason := false
      shortfallReason := (if s.station.state = .run then false else s.prot.shortfallReason) } ∧
    State.Quiet { s with counters := s.counters.bump cause.counter, meas := meas, gov := gov, prot := { s.prot with
      firstCause := some cause, causes := [cause], heldReason := false
      shortfallReason := (if s.station.state = .run then false else s.prot.shortfallReason) } } (s.receiveCause cause) ∧
    gov.mode = .coast ∧ (s.station.state = .run → gov.output = 0 ∧ gov.request = 0) ∧
    meas.faultOrder = s.meas.faultOrder ∧ meas.converting = s.meas.converting ∧
    meas.channels.linkVoltage = s.meas.channels.linkVoltage := by
  rw [State.receiveCause_of_running cause running]
  have told (t u : State) (same : State.Quiet u t) : State.Quiet u (t.alert .trip [cause.code]) := same.alert _ _
  by_cases run : s.station.state = .run
  · rw [State.trip_of_run (s := s.bump cause.counter) run, if_pos run]
    exact ⟨_, _, by simp [State.bump], by simp [State.bump], told _ _ ⟨rfl, rfl, rfl, rfl, List.prefix_refl _, rfl, rfl, rfl, rfl⟩,
      rfl, fun _ => ⟨rfl, rfl⟩, rfl, rfl, rfl⟩
  · rw [State.trip_of_left (s := s.bump cause.counter) run, if_neg run]
    exact ⟨s.meas, _, by simp [State.bump], by simp [State.bump],
      told _ _ ⟨rfl, rfl, rfl, rfl, List.prefix_refl _, rfl, rfl, rfl, rfl⟩, rfl, fun eq => (run eq).elim, rfl, rfl, rfl⟩

/-! ### The grid section's steps -/

/-- A grid section without stages, spin-up and blower fault. -/
def Grid.heat (g : Grid) : Grid := { g with target := 0, established := 0, spinUp := none, blowerFault := false }

/-- The readings of a grid section that stages and spin-up leave alone. -/
structure Grid.SameHeat (g h : Grid) : Prop where
  duty : g.duty = h.duty
  theta : g.theta = h.theta
  gridTemp : g.gridTemp = h.gridTemp
  offer : g.offer = h.offer
  openCounter : g.openCounter = h.openCounter
  elementGood : g.elementGood = h.elementGood

theorem Grid.heat_inj {g h : Grid} (same : g.heat = h.heat) : g.SameHeat h := by
  simp only [Grid.heat, Grid.mk.injEq] at same
  constructor <;> simp only [same]

theorem Grid.act_heat (g : Grid) (q : Nat) : (g.act q).heat = g.heat := by
  unfold Grid.act
  (repeat' split) <;> rfl

theorem Grid.act_blowerFault (g : Grid) (q : Nat) : (g.act q).blowerFault = g.blowerFault := by
  unfold Grid.act
  (repeat' split) <;> rfl

theorem Grid.act_of_idle {g : Grid} (idle : g.spinUp = none) (q : Nat) :
    ((g.act q).target, (g.act q).established, (g.act q).spinUp) =
      (if g.established < q then (q, g.established, some 125)
        else if q < g.established then (q, q, none) else (g.target, g.established, none)) := by
  simp only [Grid.act, idle]
  split_ifs
  · rfl
  · rfl
  · exact congrArg (fun u => (g.target, g.established, u)) idle

theorem Grid.act_of_level {g : Grid} {stage : Nat} (idle : g.spinUp = none) (level : g.established = stage)
    (target : g.target = stage) (q : Nat) : ((g.act q).target, (g.act q).established, (g.act q).spinUp) =
      (if stage < q then (q, stage, some 125) else (q, q, none)) := by
  rw [Grid.act_of_idle idle, level, target]
  obtain up | rfl | down := lt_trichotomy stage q
  · rw [if_pos up, if_pos up]
  · simp
  · rw [if_neg down.asymm, if_pos down, if_neg down.asymm]

theorem Grid.act_of_spinning {g : Grid} {n : Nat} (spinning : g.spinUp = some n) (q : Nat) :
    ((g.act q).target, (g.act q).established, (g.act q).spinUp) =
      (if g.target < q then (q, g.established, some 125)
        else if q = g.target then (g.target, g.established, some n)
        else if q = g.established then (q, g.established, none)
        else if q < g.established then (q, q, none) else (q, g.established, some 125)) := by
  simp only [Grid.act, spinning]
  split_ifs <;> simp [spinning]

section
variable (s : State)

theorem State.judgeGridOpen_grid : s.judgeGridOpen.grid =
    { s.grid with openCounter := if 8 ≤ s.nextOpenCounter then 0 else s.nextOpenCounter } := by
  unfold State.judgeGridOpen
  dsimp only
  split_ifs
  · exact State.receiveCause_grid _ _
  · rfl

variable {s}

theorem State.countSpinUp_of_idle (idle : s.grid.spinUp = none) (running : Bool) : s.countSpinUp running = s := by
  simp only [State.countSpinUp, idle]

theorem State.countSpinUp_of_last (last : s.grid.spinUp = some 1) (running : Bool) :
    s.countSpinUp running = s.spinUpCheck running := by
  simp only [State.countSpinUp, last, le_refl, if_true]

theorem State.countSpinUp_of_more {n : Nat} (spinning : s.grid.spinUp = some n) (more : 2 ≤ n) (running : Bool) :
    s.countSpinUp running = { s with grid := { s.grid with spinUp := some (n - 1) } } := by
  simp only [State.countSpinUp, spinning, if_neg (by omega : ¬ n ≤ 1)]

variable (s)

/-- The check of the blower-running line, apart from its ALERT (R137). -/
theorem State.spinUpCheck_eq (running : Bool) : ∃ u : State, u = { s with
      pins := { s.pins with blowerRunning := running }
      grid := { s.grid with
        target := if running then s.grid.target else s.grid.established
        established := if running then s.grid.target else s.grid.established
        spinUp := none
        blowerFault := !running } } ∧
    s.spinUpCheck running =
      if running = false ∧ s.grid.blowerFault = false then u.alert .blowerFault [] else u := by
  refine ⟨_, rfl, ?_⟩
  cases running
  · cases fault : s.grid.blowerFault <;> simp [State.spinUpCheck, fault]
  · simp [State.spinUpCheck]

theorem State.spinUpCheck_grid (running : Bool) : (s.spinUpCheck running).grid = { s.grid with
    target := if running then s.grid.target else s.grid.established
    established := if running then s.grid.target else s.grid.established
    spinUp := none
    blowerFault := !running } := by
  obtain ⟨u, rfl, checked⟩ := s.spinUpCheck_eq running
  rw [checked]
  split_ifs <;> simp

theorem State.spinUpCheck_pins (running : Bool) :
    (s.spinUpCheck running).pins = { s.pins with blowerRunning := running } := by
  obtain ⟨u, rfl, checked⟩ := s.spinUpCheck_eq running
  rw [checked]
  split_ifs <;> simp

/-- A new blower fault is told as the newest urgent post if there is room (R137). -/
theorem State.spinUpCheck_tells (here : s.station.state ≠ .isolated) (fault : s.grid.blowerFault = false)
    (room : (s.spinUpCheck false).bus.urgent.length < 4) :
    (s.spinUpCheck false).bus.urgent.getLast? = some (.alert .blowerFault []) := by
  obtain ⟨u, eq, checked⟩ := s.spinUpCheck_eq false
  rw [if_pos ⟨rfl, fault⟩] at checked
  rw [checked] at room ⊢
  exact u.alert_getLast (by rw [eq]; exact here) room

theorem State.countSpinUp_heat (running : Bool) : (s.countSpinUp running).grid.heat = s.grid.heat := by
  unfold State.countSpinUp
  split
  · rfl
  · split
    · obtain ⟨u, rfl, checked⟩ := s.spinUpCheck_eq running
      rw [checked]
      split_ifs <;> simp [Grid.heat]
    · rfl

theorem State.countSpinUp_told (running : Bool) : s.bus.urgent <+: (s.countSpinUp running).bus.urgent ∧
    (s.countSpinUp running).counters =
      { s.counters with urgentOverflows := (s.countSpinUp running).counters.urgentOverflows } := by
  unfold State.countSpinUp
  split
  · exact ⟨List.prefix_refl _, rfl⟩
  · split
    · obtain ⟨u, eq, checked⟩ := s.spinUpCheck_eq running
      have bus : u.bus = s.bus := by rw [eq]
      have counters : u.counters = s.counters := by rw [eq]
      have told := (State.Quiet.refl u).alert .blowerFault []
      rw [checked, ← bus, ← counters]
      split_ifs
      · exact ⟨told.urgent, told.counters⟩
      · exact ⟨List.prefix_refl _, rfl⟩
    · exact ⟨List.prefix_refl _, rfl⟩

/-- A superframe completion as far as the count of low currents (R127, steps 1 to 6). -/
def State.afterGridOpen : State := (s.stepThermal.judge .gridHot s.stepThermal.gridHot).judgeGridOpen

/-- The grid section after the count of low currents (R127, steps 1 to 6). -/
def State.countedGrid : Grid :=
  { s.stepThermal.grid with openCounter := if 8 ≤ s.nextOpenCounter then 0 else s.nextOpenCounter }

theorem State.completeSuperframe_eq (running : Bool) :
    s.completeSuperframe running = (s.afterGridOpen.countSpinUp running).actOnStage.beginSuperframe := rfl

theorem State.afterGridOpen_eq : s.afterGridOpen =
    if 8 ≤ s.nextOpenCounter then
      ((s.judge .gridHot s.stepThermal.gridHot).withUnits s.countedGrid s.meas).receiveCause .gridOpen
    else (s.judge .gridHot s.stepThermal.gridHot).withUnits s.countedGrid s.meas := by
  have judged : s.stepThermal.judge .gridHot s.stepThermal.gridHot =
      (s.judge .gridHot s.stepThermal.gridHot).withUnits s.stepThermal.grid s.meas :=
    s.judge_withUnits s.stepThermal.grid s.meas (c := .gridHot) nofun _
  unfold State.afterGridOpen State.countedGrid
  rw [judged]
  generalize s.stepThermal.gridHot = hot
  have counter : ((s.judge .gridHot hot).withUnits s.stepThermal.grid s.meas).nextOpenCounter = s.nextOpenCounter := rfl
  unfold State.judgeGridOpen
  rw [counter]
  dsimp only
  split_ifs <;> rfl

theorem State.afterGridOpen_grid : s.afterGridOpen.grid = s.countedGrid := by
  rw [State.afterGridOpen_eq]
  split_ifs
  · exact State.receiveCause_grid _ _
  · rfl

theorem State.afterGridOpen_link :
    s.afterGridOpen.meas.channels.linkVoltage = s.meas.channels.linkVoltage := by
  rw [State.afterGridOpen_eq]
  split_ifs
  · exact State.receiveCause_link _ _
  · rfl

theorem State.completeSuperframe_units (running : Bool) :
    (s.completeSuperframe running).load = s.load ∧ (s.completeSuperframe running).geo = s.geo ∧
    (s.completeSuperframe running).peers = s.peers ∧
    (s.completeSuperframe running).bus = { s.bus with urgent := (s.completeSuperframe running).bus.urgent } :=
  ⟨by simp [State.completeSuperframe], by simp [State.completeSuperframe], by simp [State.completeSuperframe],
    BusPort.eq_of_rest (by simp [State.completeSuperframe])⟩

/-- The requested stage is worked out from the target that the count of the spin-up left (R134). -/
theorem State.completeSuperframe_stage (running : Bool) {g : Grid} (counted : (s.afterGridOpen.countSpinUp running).grid = g) :
    ((s.completeSuperframe running).grid.target, (s.completeSuperframe running).grid.established,
      (s.completeSuperframe running).grid.spinUp) =
    (let q := requestedStage g.target
      (((s.completeSuperframe running).grid.theta.map (fun x => x.tdiv 65536)).getD 0) s.grid.duty
     ((g.act q).target, (g.act q).established, (g.act q).spinUp)) := by
  subst counted
  have heat : (s.afterGridOpen.countSpinUp running).grid.heat = s.countedGrid.heat := by
    rw [State.countSpinUp_heat, State.afterGridOpen_grid]
  have duty : (s.afterGridOpen.countSpinUp running).grid.duty = s.grid.duty := (Grid.heat_inj heat).duty
  have theta : (s.completeSuperframe running).grid.theta = (s.afterGridOpen.countSpinUp running).grid.theta :=
    (Grid.heat_inj (Grid.act_heat _ _)).theta
  rw [theta, ← duty]
  rfl

theorem State.completeSuperframe_bus (running : Bool) :
    (s.completeSuperframe running).bus = (s.afterGridOpen.countSpinUp running).bus := by
  rw [State.completeSuperframe_eq, State.beginSuperframe_bus, State.actOnStage_bus]

theorem State.completeSuperframe_pins (running : Bool) :
    (s.completeSuperframe running).pins = (s.afterGridOpen.countSpinUp running).pins := by
  rw [State.completeSuperframe_eq, State.beginSuperframe_pins, State.actOnStage_pins]

theorem State.completeSuperframe_blowerFault (running : Bool) :
    (s.completeSuperframe running).grid.blowerFault = (s.afterGridOpen.countSpinUp running).grid.blowerFault :=
  Grid.act_blowerFault _ _

/-- Only an isolated station is isolated after the judgements. -/
theorem State.afterGridOpen_unisolated (here : s.station.state ≠ .isolated) :
    s.afterGridOpen.station.state ≠ .isolated := by
  rw [State.afterGridOpen_eq]
  generalize judged : (s.judge .gridHot s.stepThermal.gridHot).withUnits s.countedGrid s.meas = w
  have state : w.station.state = s.station.state := by rw [← judged]; simp [State.withUnits]
  split_ifs
  · obtain ⟨running, -⟩ | ⟨-, -, eq⟩ | ⟨-, -, eq⟩ | ⟨-, eq⟩ := State.receiveCause_cases w .gridOpen
    · obtain ⟨_, _, station, -⟩ := State.receiveCause_trips w .gridOpen running
      simp [station]
    all_goals rw [eq]; exact state ▸ here
  · exact state ▸ here

end

end Sys2Proof.Machine

open Sys2Proof Sys2Proof.Machine

/-- Settles O56: the stage is acted on from what the count of the spin-up left. -/
theorem spinUpCompletions : Obligations.SpinUpCompletions := by
  intro running s awake
  have run : exec (.superframeCompletion running) s = .next (s.completeSuperframe running) := if_neg awake
  have units := s.completeSuperframe_units running
  have grid := s.afterGridOpen_grid
  refine ⟨fun last => ?_, fun n spinning more => ?_⟩
  · have checked : s.afterGridOpen.countSpinUp running = s.afterGridOpen.spinUpCheck running :=
      State.countSpinUp_of_last (by rw [grid]; exact last) running
    have counted := (congrArg State.grid checked).trans (s.afterGridOpen.spinUpCheck_grid running)
    rw [grid] at counted
    refine ⟨_, if_pos ⟨awake, last⟩, run, ?_, ?_, ?_, fun stopped faultless here room => ?_, units⟩
    · exact (s.completeSuperframe_stage running counted).trans (Grid.act_of_level rfl rfl rfl _)
    · rw [State.completeSuperframe_blowerFault, counted]
    · exact (s.completeSuperframe_pins running).trans <| (congrArg State.pins checked).trans ((State.spinUpCheck_pins _ _).trans (by simp [State.afterGridOpen]))
    · subst stopped
      have told : (s.completeSuperframe false).bus = (s.afterGridOpen.spinUpCheck false).bus :=
        (s.completeSuperframe_bus false).trans (congrArg State.bus checked)
      rw [told] at room ⊢
      exact State.spinUpCheck_tells _ (s.afterGridOpen_unisolated here) (by rw [grid]; exact faultless) room
  · have checked := State.countSpinUp_of_more (s := s.afterGridOpen) (by rw [grid]; exact spinning) more running
    have counted := congrArg State.grid checked
    dsimp only at counted
    rw [grid] at counted
    refine ⟨_, run, ?_, ?_, ?_, units⟩
    · exact (s.completeSuperframe_stage running counted).trans (Grid.act_of_spinning rfl _)
    · rw [State.completeSuperframe_blowerFault, counted]
      rfl
    · exact (s.completeSuperframe_pins running).trans <| (congrArg State.pins checked).trans (by simp [State.afterGridOpen])

end

section
/-! SUPPORT. The work of a superframe completion beside the stages: heat, GRID_HOT, low currents and the next duty
(R123 to R133, R139). -/

namespace Sys2Proof.Machine

section
variable (s : State)

/-- A superframe counts as low with GRID_CURRENT in service, unless it was in flight at a warm restart (R139). -/
abbrev State.LowCurrent : Prop :=
  s.meas.channels.gridCurrent.faulted = false ∧ s.grid.counted = true ∧ 1024 ≤ s.grid.duty ∧ s.grid.currentLow = true

theorem State.nextOpenCounter_of_low {s : State} (low : s.LowCurrent) : s.nextOpenCounter = s.grid.openCounter + 1 := by
  obtain ⟨served, counted, conducts, low⟩ := low
  simp [State.nextOpenCounter, served, counted, conducts, low]

theorem State.nextOpenCounter_of_not_low {s : State} (high : ¬ s.LowCurrent) : s.nextOpenCounter = 0 := by
  unfold State.nextOpenCounter
  split_ifs with left conducts
  · rfl
  · have both : s.meas.channels.gridCurrent.faulted = false ∧ s.grid.counted = true := by simpa using left
    exact (high ⟨both.1, both.2, conducts⟩).elim
  · rfl

theorem State.eight_le_nextOpenCounter : 8 ≤ s.nextOpenCounter ↔ s.LowCurrent ∧ 7 ≤ s.grid.openCounter := by
  by_cases low : s.LowCurrent
  · rw [State.nextOpenCounter_of_low low]
    exact ⟨fun reached => ⟨low, by omega⟩, fun ⟨_, seven⟩ => by omega⟩
  · rw [State.nextOpenCounter_of_not_low low]
    exact ⟨fun reached => by omega, fun ⟨counts, _⟩ => (low counts).elim⟩

theorem State.offerNow_eq (tg : Option Int) : s.offerNow tg = (match tg with
    | some x => if s.station.state = .run ∧ s.prot.firstCause = none then
        (if s.grid.blowerFault then offerOfTemp s.station.record.gridPower x / 2
          else offerOfTemp s.station.record.gridPower x)
      else 0
    | none => 0) := by
  cases tg <;> rfl

theorem State.countedGrid_openCounter : s.countedGrid.openCounter =
    if s.LowCurrent then (if 7 ≤ s.grid.openCounter then 0 else s.grid.openCounter + 1) else 0 := by
  have eight := s.eight_le_nextOpenCounter
  by_cases low : s.LowCurrent
  · simp [State.countedGrid, State.nextOpenCounter_of_low low, low]
  · simp [State.countedGrid, State.nextOpenCounter_of_not_low low, low]

/-- What GRID_OPEN changes of a state after the judgement of GRID_HOT, which `judged` is apart from grid section (R139,
R173 to R175). -/
structure State.OpenJudged (s judged t : State) (cause : Prop) : Prop where
  stack : t.prot.stack = judged.prot.stack
  pendingSet : t.prot.pendingSet = judged.prot.pendingSet
  deferredSet : t.prot.deferredSet = judged.prot.deferredSet
  urgent : judged.bus.urgent <+: t.bus.urgent
  untouched : ¬ cause ∨ (¬ (s.station.state = .ready ∨ s.station.state = .run ∨ s.station.state = .held) ∧
      s.station.state ≠ .tripped) → t.station = s.station ∧ t.gov = s.gov ∧ t.meas = s.meas ∧ t.prot = judged.prot ∧
    t.counters = { s.counters with urgentOverflows := t.counters.urgentOverflows }
  trips : cause → s.station.state = .ready ∨ s.station.state = .run ∨ s.station.state = .held →
    t.station = { s.station with state := .tripped } ∧ t.prot.firstCause = some .gridOpen ∧
    t.prot.causes = [.gridOpen] ∧ t.prot.heldReason = false ∧ t.gov.mode = .coast ∧
    (s.station.state = .run → t.gov.output = 0 ∧ t.gov.request = 0) ∧
    t.counters.gridOpenTrips = min 65535 (s.counters.gridOpenTrips + 1)
  further : cause → s.station.state = .tripped →
    t.station = s.station ∧ t.gov = s.gov ∧ t.meas = s.meas ∧
    t.prot = { judged.prot with
      causes := (if .gridOpen ∈ s.prot.causes then s.prot.causes else s.prot.causes ++ [.gridOpen]) } ∧
    t.counters.gridOpenTrips = min 65535 (s.counters.gridOpenTrips + 1)

theorem State.afterGridOpen_judged : State.OpenJudged s (s.judge .gridHot s.stepThermal.gridHot) s.afterGridOpen
    (s.LowCurrent ∧ 7 ≤ s.grid.openCounter) := by
  have quiet := s.judge_quiet (c := .gridHot) nofun s.stepThermal.gridHot
  have station := s.judge_station .gridHot s.stepThermal.gridHot
  rw [State.afterGridOpen_eq, ← State.eight_le_nextOpenCounter]
  generalize s.judge .gridHot s.stepThermal.gridHot = judged at quiet station
  have state : judged.station.state = s.station.state := by rw [station]
  have trips : judged.counters.gridOpenTrips = s.counters.gridOpenTrips := by rw [quiet.counters]
  have causes : judged.prot.causes = s.prot.causes := by rw [quiet.prot]
  by_cases cause : 8 ≤ s.nextOpenCounter
  swap
  · rw [if_neg cause]
    exact ⟨rfl, rfl, rfl, List.prefix_refl _, fun _ => ⟨station, quiet.gov, rfl, rfl, quiet.counters⟩,
      fun is => (cause is).elim, fun is => (cause is).elim⟩
  rw [if_pos cause]
  by_cases running : s.station.state = .ready ∨ s.station.state = .run ∨ s.station.state = .held
  · obtain ⟨_, _, tripped, prot, told, coast, dropped, -⟩ := State.receiveCause_trips (judged.withUnits s.countedGrid s.meas) .gridOpen
      (by simpa only [State.withUnits, state] using running)
    refine ⟨by rw [prot]; rfl, by rw [prot]; rfl, by rw [prot]; rfl, told.urgent,
      fun or => (or.elim (· cause) (·.1 running)).elim, fun _ _ => ⟨tripped.trans (by simp [State.withUnits, station]),
        by rw [prot], by rw [prot], by rw [prot], by rw [told.gov]; exact coast, fun run => ?_, ?_⟩, fun _ is => ?_⟩
    · rw [told.gov]
      exact dropped (state.trans run)
    · rw [told.counters, ← trips]
      rfl
    · rcases running with at_ | at_ | at_ <;> exact absurd (at_.symm.trans is) (by decide)
  by_cases tripped : s.station.state = .tripped
  · rw [State.receiveCause_of_tripped (s := judged.withUnits s.countedGrid s.meas) (state.trans tripped) .gridOpen]
    exact ⟨rfl, rfl, rfl, List.prefix_refl _, fun or => (or.elim (· cause) (·.2 tripped)).elim, fun _ is => (running is).elim,
      fun _ _ => ⟨station, quiet.gov, rfl, by rw [← causes]; rfl, by rw [← trips]; rfl⟩⟩
  · have other : judged.station.state = .listen ∨ judged.station.state = .commission ∨ judged.station.state = .reset ∨
        judged.station.state = .isolated := by
      rw [state]
      revert running tripped
      cases s.station.state <;> decide
    rw [State.receiveCause_of_other (s := judged.withUnits s.countedGrid s.meas) .gridOpen other]
    exact ⟨rfl, rfl, rfl, List.prefix_refl _, fun _ => ⟨station, quiet.gov, rfl, rfl, quiet.counters⟩,
      fun _ is => (running is).elim, fun _ is => (tripped is).elim⟩

/-- The grid section after a completion but for the next superframe (R122 to R124). -/
theorem State.completeSuperframe_grid (running : Bool) : ∃ g : Grid, g.SameHeat s.countedGrid ∧
    (s.completeSuperframe running).grid = { g with
      elapsed := 0
      duty := (s.completeSuperframe running).dutyAtStart s.meas.channels.linkVoltage.value.toNat
      latchedVoltage := s.meas.channels.linkVoltage.value.toNat
      currentLow := true
      counted := true } := by
  have heat : (s.afterGridOpen.countSpinUp running).actOnStage.grid.heat = s.countedGrid.heat :=
    (Grid.act_heat _ _).trans ((State.countSpinUp_heat _ running).trans (congrArg Grid.heat s.afterGridOpen_grid))
  have link : (s.afterGridOpen.countSpinUp running).actOnStage.meas.channels.linkVoltage = s.meas.channels.linkVoltage := by
    rw [State.actOnStage_meas, State.countSpinUp_meas, State.afterGridOpen_link]
  refine ⟨_, Grid.heat_inj heat, ?_⟩
  rw [State.completeSuperframe_eq]
  generalize (s.afterGridOpen.countSpinUp running).actOnStage = u at link
  rw [← link]
  rfl

theorem State.completeSuperframe_rest (running : Bool) :
    (s.completeSuperframe running).station = s.afterGridOpen.station ∧
    (s.completeSuperframe running).gov = s.afterGridOpen.gov ∧
    (s.completeSuperframe running).meas = s.afterGridOpen.meas ∧
    (s.completeSuperframe running).prot = s.afterGridOpen.prot ∧
    s.afterGridOpen.bus.urgent <+: (s.completeSuperframe running).bus.urgent ∧
    (s.completeSuperframe running).counters = { s.afterGridOpen.counters with
      urgentOverflows := (s.completeSuperframe running).counters.urgentOverflows } := by
  rw [State.completeSuperframe_eq]
  have told := s.afterGridOpen.countSpinUp_told running
  simpa using told

end

end Sys2Proof.Machine

open Sys2Proof Sys2Proof.Machine

/-- Settles O55. -/
theorem superframeCompletions : Obligations.SuperframeCompletions := by
  intro running s awake
  have judged := s.afterGridOpen_judged
  obtain ⟨load, geo, peers, bus⟩ := s.completeSuperframe_units running
  obtain ⟨station, gov, meas, prot, urgent, counters⟩ := s.completeSuperframe_rest running
  obtain ⟨g, same, grid⟩ := s.completeSuperframe_grid running
  dsimp only
  refine ⟨_, if_neg awake, ?_, ?_, ?_, ?_, ?_, ?_, ?_, ?_, ?_, ?_, ?_, ?_, ?_, ?_, ?_, ?_, ?_, ?_, load, geo, peers, bus⟩
  · rw [grid]; exact same.theta
  · rw [grid]; exact same.gridTemp
  · rw [grid]; exact same.offer.trans (s.offerNow_eq _)
  · rw [grid]; exact same.openCounter.trans s.countedGrid_openCounter
  · intro idle
    have counted : s.afterGridOpen.countSpinUp running = s.afterGridOpen :=
      State.countSpinUp_of_idle (by rw [s.afterGridOpen_grid]; exact idle) running
    have left := (congrArg State.grid counted).trans s.afterGridOpen_grid
    refine ⟨?_, ?_, ?_⟩
    · refine (s.completeSuperframe_stage running left).trans ((Grid.act_of_idle (g := s.countedGrid) idle _).trans ?_)
      rw [grid, same.theta]
      rfl
    · rw [State.completeSuperframe_blowerFault, left]
      rfl
    · rw [State.completeSuperframe_pins, counted]
      simp [State.afterGridOpen]
  · rw [grid]; exact same.elementGood
  · rw [grid]
  · rw [grid]
  · rw [grid]
  · rw [grid]
  · have link : (s.completeSuperframe running).meas.channels.linkVoltage = s.meas.channels.linkVoltage :=
      meas ▸ s.afterGridOpen_link
    have record : (s.completeSuperframe running).station.record = s.station.record := by
      rw [station]
      exact (Station.rest_inj.1 (by simp [State.afterGridOpen])).2.1
    rw [grid]
    dsimp only
    rw [State.dutyAtStart, link, record] <;> rfl
  · exact (congrArg Protection.stack prot).trans judged.stack
  · exact (congrArg Protection.pendingSet prot).trans judged.pendingSet
  · exact (congrArg Protection.deferredSet prot).trans judged.deferredSet
  · exact judged.urgent.trans urgent
  · intro none
    obtain ⟨station', gov', meas', prot', counters'⟩ := judged.untouched none
    exact ⟨station.trans station', gov.trans gov', meas.trans meas', prot.trans prot',
      counters.trans (by rw [counters'])⟩
  · rw [station, prot, gov, counters]
    exact judged.trips
  · rw [station, gov, meas, prot, counters]
    exact judged.further

end

section
/-! SUPPORT. A completed conversion (R54 to R62): its judgement, its record, and what is handed over. -/

namespace Sys2Proof.Machine

theorem conversionResult_eq (c : Channel) (raw : Int) (radius : Nat) :
    conversionResult c raw radius = if c = .wheelSpeed then (raw * radius).tdiv 10000 else raw := by
  cases c <;> rfl

theorem rateOk_iff (r : ChannelRecord) (x : Int) : rateOk r x = true ↔
    ∀ v, (if r.faulted then some r.value else r.lastGood) = some v → -150 ≤ x - v ∧ x - v ≤ 150 := by
  unfold rateOk comparisonSpeed
  cases (if r.faulted then some r.value else r.lastGood) with
  | none => simp
  | some v => simp; omega

theorem judgeResult_good_iff (c : Channel) (r : ChannelRecord) (x : Int) : judgeResult c r x = .good ↔
    (plausible c).1 ≤ x ∧ x ≤ (plausible c).2 ∧ (c = .wheelSpeed →
      ∀ v, (if r.faulted then some r.value else r.lastGood) = some v → -150 ≤ x - v ∧ x - v ≤ 150) := by
  rw [← rateOk_iff]
  simp [judgeResult, imp_iff_not_or]

theorem judgeResult_bad {c : Channel} {r : ChannelRecord} {x : Int} (bad : judgeResult c r x ≠ .good) :
    judgeResult c r x = .bad := by
  cases eq : judgeResult c r x
  · exact (bad eq).elim
  · rfl

theorem Channels.set_set (x : Channels) (r q : ChannelRecord) (c : Channel) : (x.set r c).set q c = x.set q c := by
  cases c <;> rfl

section
variable (s : State)

/-- The WINDING_TEMP judgement is the hand-over of that channel alone (R148). -/
def State.handOverWinding (s : State) (c : Channel) : State := if c = .windingTemp then s.judgeWinding else s

theorem State.handOverWinding_withConverting (c d : Channel) :
    { s.handOverWinding c with meas := { (s.handOverWinding c).meas with converting := some d } } =
      State.handOverWinding { s with meas := { s.meas with converting := some d } } c := by
  unfold State.handOverWinding State.judgeWinding
  split
  · have judged := s.judge_withUnits s.grid { s.meas with converting := some d } (c := .windingHot) nofun s.windingHot
    have grid : (s.judge .windingHot s.windingHot).grid = s.grid := s.judge_grid _ _
    rw [s.judge_meas]
    exact (show _ = (s.judge .windingHot s.windingHot).withUnits s.grid _ by rw [← grid]; rfl).trans judged.symm
  · rfl

/-- The hand-overs but for LINK_HARD (R62). -/
theorem State.handOver_of_mild (c : Channel) (j : Judgement) (x : Int)
    (mild : ¬ (c = .linkVoltage ∧ j = .good ∧ 2300 ≤ x ∧ s.meas.channels.linkVoltage.faulted = false)) :
    s.handOver c j x = State.handOverWinding { s with grid := { s.grid with
      elementGood := if c = .gridElementTemp ∧ j = .good then some x else s.grid.elementGood
      currentLow := s.grid.currentLow && (c != .gridCurrent || (j == .good && decide (x < 50))) } } c := by
  have elsewhere (d : Channel) (ne : d ≠ .gridCurrent) : (d != .gridCurrent) = true := by simpa using ne
  cases c
  case linkVoltage =>
    have quiet : ¬ (j = .good ∧ 2300 ≤ x ∧ s.meas.channels.linkVoltage.faulted = false) := fun hard => mild ⟨rfl, hard⟩
    simp [State.handOver, if_neg quiet, State.handOverWinding, elsewhere .linkVoltage]
  case gridElementTemp =>
    cases j <;> simp [State.handOver, State.handOverWinding, elsewhere .gridElementTemp]
  case gridCurrent => simp [State.handOver, State.handOverWinding]
  all_goals simp [State.handOver, State.handOverWinding, elsewhere]

theorem State.handOverWinding_eq {s : State} (c : Channel) {n : Nat} (load : s.load.accumulator = n) :
    s.handOverWinding c = if c = .windingTemp then s.judge .windingHot (decide (45000000 ≤ n) ||
      (!s.meas.channels.windingTemp.faulted && decide (2000 ≤ s.meas.channels.windingTemp.value))) else s := by
  rw [← load]
  rfl

/-- A completion without LINK_HARD: the record, what the grid section is handed, the next channel, and the WINDING_TEMP
judgement (R54, R62). -/
theorem State.completeConversion_of_mild {c : Channel} {raw x : Int} {j : Judgement} {u : State}
    (result : conversionResult c raw s.station.record.rollingRadius = x)
    (judged : judgeResult c (s.meas.channels.get c) x = j) (record : s.updateRecord c j x = u)
    (mild : ¬ (c = .linkVoltage ∧ j = .good ∧ 2300 ≤ x ∧ u.meas.channels.linkVoltage.faulted = false)) :
    s.completeConversion c raw = State.handOverWinding { u with
      meas := { u.meas with converting := some c.next }
      grid := { u.grid with
        elementGood := if c = .gridElementTemp ∧ j = .good then some x else u.grid.elementGood
        currentLow := u.grid.currentLow && (c != .gridCurrent || (j == .good && decide (x < 50))) } } c := by
  subst result
  subst judged
  subst record
  exact (congrArg (fun t : State => { t with meas := { t.meas with converting := some c.next } })
    (State.handOver_of_mild _ c _ _ mild)).trans (State.handOverWinding_withConverting _ c c.next)

/-- A hard LINK_VOLTAGE result (R62, R173). -/
theorem State.completeConversion_of_hard {raw x : Int} {u : State}
    (result : conversionResult .linkVoltage raw s.station.record.rollingRadius = x)
    (judged : judgeResult .linkVoltage s.meas.channels.linkVoltage x = .good)
    (record : s.updateRecord .linkVoltage .good x = u) (hard : 2300 ≤ x)
    (served : u.meas.channels.linkVoltage.faulted = false) :
    s.completeConversion .linkVoltage raw = { u.receiveCause .linkHard with
      meas := { (u.receiveCause .linkHard).meas with converting := some .windingTemp } } := by
  subst record
  have handed : (s.updateRecord .linkVoltage .good x).handOver .linkVoltage .good x =
      (s.updateRecord .linkVoltage .good x).receiveCause .linkHard := if_pos ⟨rfl, hard, served⟩
  unfold State.completeConversion
  dsimp only [Channels.get]
  rw [result, judged, handed]
  rfl

theorem State.updateRecord_bad {c : Channel} (few : (s.meas.channels.get c).badRun ≠ 7) (x : Int) :
    s.updateRecord c .bad x = s.setChannel c (s.meas.channels.get c).afterBad := by
  have other : (s.meas.channels.get c).afterBad.badRun ≠ 8 := by
    simp only [ChannelRecord.afterBad, countTo]
    omega
  exact if_neg other

/-- The eighth BAD result in a row (R59, R60). -/
theorem State.updateRecord_eighth {c : Channel} (seven : (s.meas.channels.get c).badRun = 7) (x : Int) :
    s.updateRecord c .bad x = State.raise { s with meas := { s.meas with
      channels := s.meas.channels.set { s.meas.channels.get c with
        status := some .bad, badRun := 8, goodRun := 0, faulted := true
        value := if (s.meas.channels.get c).faulted then (s.meas.channels.get c).value else s.fallback c } c
      faultOrder := if (s.meas.channels.get c).faulted then s.meas.faultOrder else s.meas.faultOrder ++ [c] } }
      .sensorFault (some c) := by
  have eight : (s.meas.channels.get c).afterBad.badRun = 8 := by
    simp [ChannelRecord.afterBad, countTo, seven]
  refine (if_pos eight).trans (congrArg (fun t : State => t.raise .sensorFault (some c)) ?_)
  have run : countTo 255 7 = 8 := rfl
  by_cases faulted : (s.meas.channels.get c).faulted = true
  · simp [faulted, State.setChannel, ChannelRecord.afterBad, seven, run]
  · simp [faulted, State.setChannel, State.markFaulted, Channels.set_set, ChannelRecord.afterBad, seven, run]
    cases c <;> simp [State.fallback, Channels.get, Channels.set]

/-- A raise does not read which channel is converted next. -/
theorem State.raise_withConverting (g : Grid) (d : Option Channel) (c : ProtClass) (ch : Option Channel) :
    { s.raise c ch with meas := { (s.raise c ch).meas with converting := d }, grid := g } =
      State.raise { s with meas := { s.meas with converting := d }, grid := g } c ch := by
  have raised := s.raiseWith_withUnits g { s.meas with converting := d } s.inFlight (c := c) (fun _ => rfl) ch
  rw [s.raise_meas]
  unfold State.raise
  by_cases live : s.station.state.live = true
  · rw [if_pos live]
    exact raised.symm.trans (if_pos live).symm
  · rw [if_neg live]
    exact (if_neg live).symm

end

end Sys2Proof.Machine

open Sys2Proof Sys2Proof.Machine

/-- Settles O51. -/
theorem conversionsAreJudged : Obligations.ConversionsAreJudged := by
  intro raw s c live flying
  have run : exec (.conversionCompletion raw) s = .next (s.completeConversion c raw) := by
    simp [exec, execConversionCompletion, flying, live]
  have result := conversionResult_eq c raw s.station.record.rollingRadius
  dsimp only
  rw [run, ← judgeResult_good_iff]
  generalize (if c = .wheelSpeed then (raw * s.station.record.rollingRadius).tdiv 10000 else raw) = x at result
  refine ⟨fun good mild => ?_, fun good hard running => ?_, fun good hard tripped => ?_, fun bad few => ?_,
    fun bad seven => ?_⟩
  · by_cases hot : c = .linkVoltage ∧ 2300 ≤ x ∧ (s.meas.channels.get c).faulted = false
    · obtain ⟨rfl, hard, served⟩ := hot
      have early : s.station.state = .listen ∨ s.station.state = .commission ∨ s.station.state = .reset ∨
          s.station.state = .isolated := (mild.resolve_left (not_not.2 ⟨rfl, hard, served⟩)).imp_right .inl
      refine congrArg Host.Outcome.next ((s.completeConversion_of_hard result good rfl hard served).trans ?_)
      rw [State.receiveCause_of_other (s := s.updateRecord .linkVoltage .good x) .linkHard early, if_neg nofun]
      have unread : ((Channel.linkVoltage : Channel) != .gridCurrent) = true := rfl
      simp only [unread, Bool.true_or, Bool.and_true, reduceCtorEq, if_false]
      rfl
    · refine congrArg Host.Outcome.next ((s.completeConversion_of_mild result good rfl ?_).trans
        ((State.handOverWinding_eq c rfl).trans ?_))
      · rintro ⟨rfl, -, hard, served⟩
        exact hot ⟨rfl, hard, served⟩
      · have isGood : ((Judgement.good : Judgement) == .good) = true := rfl
        simp only [isGood, Bool.true_and, and_true]
        rfl
  · obtain ⟨rfl, hard, served⟩ := hard
    have trip := s.completeConversion_of_hard result good rfl hard served
    obtain ⟨m, g, station, prot, told, coast, dropped, order, converting, link⟩ :=
      (s.updateRecord .linkVoltage .good x).receiveCause_trips .linkHard running
    refine ⟨_, congrArg Host.Outcome.next trip, station, prot, ?_, ?_, rfl, ?_, ?_, ?_, ?_, ?_, ?_, ?_, ?_, told.urgent⟩
    · exact congrArg Counters.linkHardTrips told.counters
    · dsimp only
      rw [State.receiveCause_link]
      rfl
    · dsimp only
      rw [told.meas]
      exact order
    · dsimp only
      rw [told.gov]
      exact coast
    · intro run
      dsimp only
      rw [told.gov]
      exact dropped run
    · exact State.receiveCause_grid _ _
    · exact State.receiveCause_load _ _
    · exact State.receiveCause_geo _ _
    · exact State.receiveCause_peers _ _
    · exact told.bus
  · obtain ⟨rfl, hard, served⟩ := hard
    refine congrArg Host.Outcome.next ((s.completeConversion_of_hard result good rfl hard served).trans ?_)
    rw [State.receiveCause_of_tripped (s := s.updateRecord .linkVoltage .good x) tripped .linkHard]
    rfl
  · have noGood : ((Judgement.bad : Judgement) == .good) = false := rfl
    refine congrArg Host.Outcome.next ((s.completeConversion_of_mild result (judgeResult_bad bad) (s.updateRecord_bad few x)
      (by simp)).trans ((State.handOverWinding_eq c rfl).trans ?_))
    simp only [noGood, Bool.false_and, Bool.or_false, reduceCtorEq, and_false, if_false]
    rfl
  · have noGood : ((Judgement.bad : Judgement) == .good) = false := rfl
    refine congrArg Host.Outcome.next ((s.completeConversion_of_mild result (judgeResult_bad bad)
      (s.updateRecord_eighth seven x) (by simp)).trans ?_)
    rw [State.raise_withConverting]
    refine (State.handOverWinding_eq c (congrArg LoadAccounting.accumulator (State.raise_load _ _ _))).trans ?_
    simp only [noGood, Bool.false_and, Bool.or_false, reduceCtorEq, and_false, if_false, State.raise_grid]
    rfl

end

section
/-! SUPPORT. The protection unit's work at an expiry of the control period (R163, R165): what the pops tell and keep, and
the clear conditions as a function of the accumulator. -/

namespace Sys2Proof.Machine

/-- Urgent posts are only appended, and no STOP is counted. -/
structure State.Tells (s t : State) : Prop where
  urgent : s.bus.urgent <+: t.bus.urgent
  stopTakes : t.counters.stopTakes = s.counters.stopTakes

theorem State.Tells.refl (s : State) : s.Tells s := ⟨List.prefix_refl _, rfl⟩

theorem State.Tells.trans {s t u : State} (h : s.Tells t) (k : t.Tells u) : s.Tells u :=
  ⟨h.urgent.trans k.urgent, k.stopTakes.trans h.stopTakes⟩

theorem State.Quiet.tells {s t : State} (h : s.Quiet t) : s.Tells t :=
  ⟨h.urgent, by rw [h.counters]⟩

section
variable (s : State)

theorem State.afterPop_tells (x : Context) : s.Tells (s.afterPop x) := by
  have told (t : State) (args : List Nat) : t.Tells (t.alert .contextCleared args) :=
    ((State.Quiet.refl t).alert .contextCleared args).tells
  by_cases own : x.cls = .sensorFault
  · rw [State.afterPop_of_sensorFault own rfl]
    obtain ⟨urgent, stopTakes⟩ := told { s with
      meas := (x.channels.foldl State.returnChannel s).meas
      prot := { s.prot with
        pendingSet := if (x.channels.foldl State.returnChannel s).meas.faultOrder = [] then
          s.prot.pendingSet.erase .sensorFault else s.prot.pendingSet } } [6]
    exact ⟨urgent, stopTakes⟩
  · rw [State.afterPop_of_other own]
    exact told s _

theorem State.afterPops_tells (l : List Context) : s.Tells (l.foldl State.afterPop s) := by
  induction l generalizing s with
  | nil => exact .refl s
  | cons x rest ih => exact (s.afterPop_tells x).trans (ih _)

theorem State.promotePending_tells (off : .stop ∉ s.prot.pendingSet) : s.Tells s.promotePending := by
  obtain ⟨-, eq⟩ | ⟨-, c, rest, lowest, -, eq⟩ | ⟨-, -, eq⟩ := s.promotePending_cases <;> rw [eq]
  · exact ⟨List.prefix_refl _, rfl⟩
  · exact (s.take_quiet fun is => off (by rw [lowest, ← is]; exact List.mem_cons_self)).tells
  · exact .refl s

theorem State.pop_tells (off : .stop ∉ s.prot.pendingSet) : s.Tells s.pop := by
  rw [State.pop_eq]
  have popped := s.dropReady.afterPops_tells (s.prot.stack.takeWhile Context.clearReady)
  have kept := (s.dropReady.afterPops_prot (s.prot.stack.takeWhile Context.clearReady)).2
  exact (show s.Tells s.dropReady from ⟨List.prefix_refl _, rfl⟩).trans
    (popped.trans (State.promotePending_tells _ fun mem => off (kept mem)))

/-- Without SENSOR_FAULT on the stack no channel is returned. -/
theorem State.pop_meas (off : s.prot.onStack .sensorFault = false) : s.pop.meas = s.meas := by
  have popped (l : List Context) (t : State) (others : ∀ x ∈ l, x.cls ≠ .sensorFault) :
      (l.foldl State.afterPop t).meas = t.meas := by
    induction l generalizing t with
    | nil => rfl
    | cons x rest ih =>
      rw [List.foldl_cons, ih _ fun y mem => others y (List.mem_cons_of_mem _ mem),
        State.afterPop_of_other (others x List.mem_cons_self), State.alert_meas]
  rw [State.pop_eq, State.promotePending_meas]
  exact popped _ s.dropReady fun x mem =>
    Protection.onStack_eq_false_iff.1 off x (List.takeWhile_sublist _ |>.subset mem)

theorem State.mem_afterPop_pendingSet {c : ProtClass} (mem : c ∈ s.prot.pendingSet) {x : Context} (other : x.cls ≠ c) :
    c ∈ (s.afterPop x).prot.pendingSet := by
  by_cases own : x.cls = .sensorFault
  · rw [State.afterPop_of_sensorFault own rfl]
    simp only [State.alert_prot]
    split
    · exact (List.mem_erase_of_ne (own ▸ other.symm)).2 mem
    · exact mem
  · rw [State.afterPop_of_other own, State.alert_prot]
    exact mem

theorem State.mem_afterPops_pendingSet {c : ProtClass} (mem : c ∈ s.prot.pendingSet) {l : List Context}
    (others : ∀ x ∈ l, x.cls ≠ c) : c ∈ (l.foldl State.afterPop s).prot.pendingSet := by
  induction l generalizing s with
  | nil => exact mem
  | cons x rest ih =>
    exact ih _ (s.mem_afterPop_pendingSet mem (others x List.mem_cons_self)) fun y memY =>
      others y (List.mem_cons_of_mem _ memY)

/-- A pop with an update in flight: the clear-ready contexts are gone from the top, and every pending class below the new
top level is deferred (R165). -/
theorem State.pop_of_flying (flying : s.inFlight = true) (apart : ∀ c ∈ s.prot.pendingSet, s.prot.onStack c = false) :
    s.pop.prot.stack = s.prot.stack.dropWhile Context.clearReady ∧
    ∀ c ∈ s.prot.pendingSet, if c.level < s.pop.prot.topLevel then c ∈ s.pop.prot.deferredSet ∧ c ∉ s.pop.prot.pendingSet
      else c ∈ s.pop.prot.pendingSet := by
  rw [State.pop_eq]
  have kept (c : ProtClass) (mem : c ∈ s.prot.pendingSet) :
      c ∈ ((s.prot.stack.takeWhile Context.clearReady).foldl State.afterPop s.dropReady).prot.pendingSet :=
    s.dropReady.mem_afterPops_pendingSet mem fun x memX =>
      Protection.onStack_eq_false_iff.1 (apart c mem) x (List.takeWhile_sublist _ |>.subset memX)
  have stack := (s.dropReady.afterPops_prot (s.prot.stack.takeWhile Context.clearReady)).1
  have gov := foldl_keeps State.gov State.afterPop (fun t x => State.afterPop_gov t x)
    (s.prot.stack.takeWhile Context.clearReady) s.dropReady
  generalize (s.prot.stack.takeWhile Context.clearReady).foldl State.afterPop s.dropReady = u at kept stack gov
  have inFlight : u.inFlight = true := (congrArg (fun g : Governor => g.update.isSome) gov).trans flying
  obtain ⟨-, eq⟩ | ⟨idle, -⟩ | ⟨idle, -⟩ := u.promotePending_cases
  · rw [eq]
    refine ⟨stack, fun c mem => ?_⟩
    change if c.level < u.prot.topLevel then _ else _
    split
    next below => exact ⟨mem_insertClasses.2 (.inl (List.mem_filter.2 ⟨kept c mem, by simpa using below⟩)), by simp [below]⟩
    next above => exact List.mem_filter.2 ⟨kept c mem, by simpa using above⟩
  · exact absurd (inFlight.symm.trans idle) (by decide)
  · exact absurd (inFlight.symm.trans idle) (by decide)

end

/-- A judgement puts no other class on the stack. -/
theorem State.judge_onStack_of_ne {s : State} {c d : ProtClass} (ne : c ≠ d) (holds : Bool) :
    (s.judge c holds).prot.onStack d = s.prot.onStack d := by
  unfold State.judge State.raise
  split_ifs
  · obtain ⟨-, eq⟩ | ⟨-, -, eq⟩ | ⟨-, -, -, -, -, eq⟩ | ⟨-, -, -, -, -, eq⟩ | ⟨-, -, -, -, eq⟩ :=
      s.raiseWith_cases s.inFlight c none <;> rw [eq]
    · exact onStack_refresh s.prot c d none
    · rfl
    · rw [State.take_prot]
      simp [Protection.onStack, State.newContext, ne]
    · rfl
  all_goals rfl

/-! ### The clear conditions -/

section
variable (s : State)

/-- The clear condition of a class at the accumulator `a` (R149, R155). -/
def State.clears (a : Nat) (c : ProtClass) : Bool :=
  match c with
  | .gridHot => decide (∃ x ∈ s.grid.gridTemp, x < 5500)
  | .windingHot => decide (a < 30000000) &&
      (s.meas.channels.windingTemp.faulted || decide (s.meas.channels.windingTemp.value < 1800))
  | .slipPersist => decide (100 ≤ s.gov.grip)
  | .payloadOver => s.load.standing == .posted && decide (∃ x ∈ s.load.percentage, x ≤ 115)
  | .peerLoss => decide (s.station.record.minDriven ≤ s.usableCount)
  | .stop | .sensorFault | .base => false

/-- A context after an expiry at which the accumulator is `a` (R163). -/
def State.ticked (a : Nat) (x : Context) : Context :=
  { x with
    hold := x.hold - 1
    clearReady := (match x.cls with
      | .stop | .sensorFault | .base => x.clearReady
      | c => decide (x.hold ≤ 1) && s.clears a c) }

theorem State.gridClear_eq : s.gridClear = decide (∃ x ∈ s.grid.gridTemp, x < 5500) := by
  unfold State.gridClear
  cases s.grid.gridTemp <;> simp

theorem State.payloadClear_eq :
    s.payloadClear = (s.load.standing == .posted && decide (∃ x ∈ s.load.percentage, x ≤ 115)) := by
  unfold State.payloadClear
  cases s.load.percentage <;> simp

theorem State.clearCondition_eq (c : ProtClass) : s.clearCondition c = s.clears s.load.accumulator c := by
  cases c
  · rfl
  · exact s.gridClear_eq
  · rfl
  · rfl
  · exact s.payloadClear_eq
  all_goals rfl

theorem State.tickContext_eq : s.tickContext = s.ticked s.load.accumulator := by
  funext x
  have hold : decide (x.hold - 1 = 0) = decide (x.hold ≤ 1) := by
    rw [decide_eq_decide]
    omega
  unfold State.tickContext State.ticked
  dsimp only
  rw [hold, s.clearCondition_eq]
  cases x.cls <;> rfl

theorem State.ticked_eq {s t : State} (grid : t.grid = s.grid) (meas : t.meas = s.meas) (grip : t.gov.grip = s.gov.grip)
    (standing : t.load.standing = s.load.standing) (percentage : t.load.percentage = s.load.percentage)
    (station : t.station = s.station) (peers : t.peers = s.peers) : t.ticked = s.ticked := by
  have clears : t.clears = s.clears := by
    funext a c
    have usable : t.usableCount = s.usableCount := by simp only [State.usableCount, station, peers]
    cases c <;> simp only [State.clears, usable, grid, meas, grip, standing, percentage, station]
  unfold State.ticked
  rw [clears]

theorem State.othersExpiry_units : s.othersExpiry.gov = s.gov ∧ s.othersExpiry.station = s.station ∧
    s.othersExpiry.peers = s.peers ∧ s.othersExpiry.geo = s.geo ∧ s.othersExpiry.grid = s.grid := by
  unfold State.othersExpiry
  split_ifs <;> simp

theorem State.othersExpiry_load_of_run (run : s.station.state = .run) : s.othersExpiry.load = s.load := by
  rw [State.othersExpiry, if_pos run, State.protectionExpiry_load]

theorem State.othersExpiry_load_of_left (left : s.station.state ≠ .run) :
    s.othersExpiry.load.accumulator = s.load.accumulator - 256 := by
  rw [State.othersExpiry, if_neg left, State.protectionExpiry_load]
  simp [State.coolWinding, State.setAccumulator]

/-- The state of an expiry in RUN before its pops: the update begun, the contexts ticked (R81, R163). -/
def State.expiredInRun : State := { s with
  gov := { s.gov with period := s.station.record.controlPeriod, update := some ⟨s.snapshot, false⟩ }
  prot := { s.prot with stack := s.prot.stack.map (s.ticked s.load.accumulator) } }

theorem State.expiry_in_run (run : s.station.state = .run) :
    s.reloadControl.governorExpiry.othersExpiry = s.expiredInRun.pop := by
  have begun : s.reloadControl.governorExpiry = { s with gov := { s.gov with
      period := s.station.record.controlPeriod, update := some ⟨s.snapshot, false⟩ } } := if_pos run
  rw [begun]
  refine (congrArg State.protectionExpiry (if_pos run)).trans ?_
  unfold State.protectionExpiry
  rw [State.tickContext_eq]
  rfl

/-- The reference speed refreshed outside RUN (R86). -/
def State.refreshedRef : Int :=
  selectRef s.demand.demand.frontRef s.gov.mode
    (speedCandidates s.meas.channels.wheelSpeed.value s.meas.channels.wheelSpeed.faulted s.geo.turnFactor
      s.peers.entries) s.gov.vRef

/-- The state of an expiry outside RUN after the WINDING_HOT judgement (R86, R143, R148). -/
def State.cooled : State := State.judge { s with
  gov := { s.gov with
    period := s.station.record.controlPeriod, vRef := s.refreshedRef
    uRef := s.refreshedRef * directionSign s.demand.demand.direction s.refreshedRef }
  load := { s.load with
    accumulator := s.load.accumulator - 256, derate := derateOf (s.load.accumulator - 256) } } .windingHot
  (decide (45000000 ≤ s.load.accumulator - 256) ||
    (!s.meas.channels.windingTemp.faulted && decide (2000 ≤ s.meas.channels.windingTemp.value)))

theorem State.cooled_load : s.cooled.load = { s.load with
    accumulator := s.load.accumulator - 256, derate := derateOf (s.load.accumulator - 256) } := by
  rw [State.cooled, State.judge_load]

theorem State.cooled_gov : s.cooled.gov = { s.gov with
    period := s.station.record.controlPeriod, vRef := s.refreshedRef
    uRef := s.refreshedRef * directionSign s.demand.demand.direction s.refreshedRef } := by
  rw [State.cooled, State.judge_gov]

theorem State.cooled_units : s.cooled.pins = s.pins ∧ s.cooled.station = s.station ∧ s.cooled.peers = s.peers ∧
    s.cooled.geo = s.geo ∧ s.cooled.grid = s.grid ∧ s.cooled.meas = s.meas ∧ s.cooled.bus.rest = s.bus.rest ∧
    s.cooled.counters.rest = s.counters.rest := by
  unfold State.cooled
  simp

theorem State.cooled_ticked : s.cooled.ticked = s.ticked := by
  obtain ⟨-, station, peers, -, grid, meas, -⟩ := s.cooled_units
  exact State.ticked_eq grid meas (by rw [s.cooled_gov]) (by rw [s.cooled_load]) (by rw [s.cooled_load]) station peers

theorem State.cooled_tells : s.Tells s.cooled := by
  unfold State.cooled
  generalize (_ || _ : Bool) = hot
  obtain ⟨urgent, stopTakes⟩ := (State.judge_quiet (c := .windingHot) { s with gov := _, load := _ } nofun hot).tells
  exact ⟨urgent, stopTakes⟩

theorem State.cooled_apart (apart : s.prot.Apart) : s.cooled.prot.Apart := by
  unfold State.cooled
  exact (State.judge_moves _ _ _).keeps (P := fun t => t.prot.Apart) Move.keeps_apart apart

theorem State.cooled_onStack : s.cooled.prot.onStack .sensorFault = s.prot.onStack .sensorFault := by
  unfold State.cooled
  rw [State.judge_onStack_of_ne (by decide)]

theorem State.expiry_left (left : s.station.state ≠ .run) : s.reloadControl.governorExpiry.othersExpiry =
    State.pop { s.cooled with prot := { s.cooled.prot with
      stack := s.cooled.prot.stack.map (s.ticked (s.load.accumulator - 256)) } } := by
  have refreshed : s.reloadControl.governorExpiry = s.reloadControl.refreshRef := if_neg left
  have cooled : s.reloadControl.refreshRef.coolWinding = s.cooled := rfl
  rw [refreshed]
  refine (congrArg State.protectionExpiry (if_neg left)).trans ?_
  unfold State.protectionExpiry
  rw [cooled, State.tickContext_eq, s.cooled_ticked, congrArg LoadAccounting.accumulator s.cooled_load]

end

end Sys2Proof.Machine

open Sys2Proof Sys2Proof.Machine

/-- Settles O44. -/
theorem controlPeriodExpiries : Obligations.ControlPeriodExpiries := by
  intro s live idle inv
  obtain ⟨apart, waits⟩ := State.stackInv_iff.1 inv
  have due : s.station.state.live = true ∧ s.inFlight = false := ⟨live, by simp [State.inFlight, idle]⟩
  have noStop : .stop ∉ s.prot.pendingSet := fun mem => (apart.pending _ mem).2.1 rfl
  refine ⟨fun running => ?_, fun left => ?_, ?_⟩
  · have run : exec (.controlPeriodExpiry true) s = .next s.expiredInRun.pop :=
      (if_pos due).trans (congrArg Host.Outcome.next (s.expiry_in_run running))
    have same (c : ProtClass) : s.expiredInRun.prot.onStack c = s.prot.onStack c := by
      simp [State.expiredInRun, Protection.onStack, Function.comp_def, State.ticked]
    obtain ⟨stack, deferred⟩ := State.pop_of_flying s.expiredInRun rfl fun c mem =>
      (same c).trans (apart.pending c mem).1
    have told := State.pop_tells s.expiredInRun noStop
    exact ⟨_, run, rfl, State.pop_gov _, stack, State.pop_load _, State.pop_station _, State.pop_peers _,
      State.pop_geo _, State.pop_grid _, State.pop_pins _, fun off => State.pop_meas _ ((same _).trans off),
      BusPort.eq_of_rest (State.pop_bus_rest _), told.urgent,
      Counters.eq_of_rest (State.pop_counters_rest _) told.stopTakes, Protection.eq_of_rest (State.pop_prot_rest _),
      deferred⟩
  · have run : exec (.controlPeriodExpiry true) s = .next _ :=
      (if_pos due).trans (congrArg Host.Outcome.next (s.expiry_left left))
    obtain ⟨pins, station, peers, geo, grid, meas, bus, counters⟩ := s.cooled_units
    have gov := s.cooled_gov
    have load := s.cooled_load
    have told := s.cooled_tells
    have apart := s.cooled_apart apart
    have onStack := s.cooled_onStack
    intro w d v a judged
    have same : s.cooled = judged := rfl
    clear_value judged
    generalize s.cooled = u at run pins station peers geo grid meas bus counters gov load told apart onStack same
    subst same
    refine ⟨_, run, rfl, ?_⟩
    have popped := State.pop_tells { u with prot := { u.prot with
      stack := u.prot.stack.map (s.ticked (s.load.accumulator - 256)) } } fun mem => (apart.pending .stop mem).2.1 rfl
    have restacked : Protection.onStack { u.prot with stack := u.prot.stack.map (s.ticked (s.load.accumulator - 256)) }
        .sensorFault = u.prot.onStack .sensorFault := by
      simp [Protection.onStack, Function.comp_def, State.ticked]
    exact ⟨(State.pop_gov _).trans gov, (State.pop_load _).trans load,
      (State.pop_station _).trans station, (State.pop_peers _).trans peers, (State.pop_geo _).trans geo,
      (State.pop_grid _).trans grid, (State.pop_pins _).trans pins,
      fun off => (State.pop_meas _ (restacked.trans (onStack.trans off))).trans meas,
      BusPort.eq_of_rest ((State.pop_bus_rest _).trans bus), told.urgent.trans popped.urgent,
      Counters.eq_of_rest ((State.pop_counters_rest _).trans counters) (popped.stopTakes.trans told.stopTakes)⟩
  · have run : exec (.controlPeriodExpiry false) s = .next s.reloadControl.othersExpiry.governorExpiry := if_pos due
    obtain ⟨gov, station, peers, geo, grid⟩ := s.reloadControl.othersExpiry_units
    have loadRun := s.reloadControl.othersExpiry_load_of_run
    have loadLeft := s.reloadControl.othersExpiry_load_of_left
    generalize s.reloadControl.othersExpiry = o at *
    have output : o.gov.output = s.gov.output := by rw [gov]; rfl
    have period : o.gov.period = s.station.record.controlPeriod := congrArg Governor.period gov
    have update : o.gov.update = none := (congrArg Governor.update gov).trans idle
    change o.station = s.station at station
    by_cases running : s.station.state = .run
    · have begun : o.governorExpiry = { o with gov := { o.gov with update := some ⟨o.snapshot, false⟩ } } :=
        if_pos (station ▸ running)
      have demand : o.demand = s.demand := by simp only [State.demand, peers, station]; rfl
      exact ⟨_, run.trans (congrArg Host.Outcome.next begun), station, period, output, fun _ =>
        ⟨_, rfl, output, rfl, rfl, rfl, demand, geo, congrArg Grid.offer grid,
          congrArg LoadAccounting.derate (loadRun running), loadRun running⟩, fun left => (left running).elim⟩
    · have refreshed : o.governorExpiry = o.refreshRef := if_neg (station ▸ running)
      exact ⟨_, run.trans (congrArg Host.Outcome.next refreshed), station, period, output,
        fun is => (running is).elim, fun _ => ⟨update, loadLeft running⟩⟩

end

section
/-! SUPPORT. The judgement of the deferred set (R160 to R162): what the raises and withdrawals of a completion leave in
stack and sets, and which deferred class is then taken. -/

namespace Sys2Proof.Machine

/-! ### A raise or a withdrawal during an update -/

/-- One class judged with an update in flight: raised, withdrawn or left (R160, R162). -/
def State.mark (s : State) (c : ProtClass) (raise withdraw : Bool) : State :=
  if raise then s.raiseWith true c none else if withdraw then s.withdraw c else s

theorem State.judge_of_flying {s : State} (live : s.station.state.live = true) (flying : s.inFlight = true)
    (c : ProtClass) (holds : Bool) : s.judge c holds = s.mark c holds (!holds) := by
  cases holds
  · simp [State.judge, State.mark, live]
  · simp [State.judge, State.mark, State.raise, live, flying]

theorem State.mark_moves (s : State) (c : ProtClass) (raise withdraw : Bool) : Moves s (s.mark c raise withdraw) := by
  unfold State.mark
  split_ifs
  · exact s.raiseWith_moves true fun _ => rfl
  · exact .single (.withdraw s c)
  · exact .refl

/-- Stack and sets once the classes of `raised` were raised and those of `withdrawn` withdrawn with an update in
flight. -/
structure Protection.Marked (p q : Protection) (raised withdrawn : ProtClass → Bool) : Prop where
  stack : q.stack = p.stack.map fun x =>
    if raised x.cls then { x with hold := x.cls.minHold, clearReady := false } else x
  deferred : ∀ c, c ∈ q.deferredSet ↔ c ∈ p.deferredSet ∨
    (raised c = true ∧ p.onStack c = false ∧ c ∉ p.pendingSet ∧ c.level < p.topLevel)
  pending : ∀ c, c ∈ q.pendingSet ↔ (c ∈ p.pendingSet ∧ withdrawn c = false) ∨
    (raised c = true ∧ p.onStack c = false ∧ c ∉ p.pendingSet ∧ c ∉ p.deferredSet ∧ p.topLevel ≤ c.level)

theorem contextEdit_raised (raised : ProtClass → Bool) (base : raised .base = false) : ContextEdit fun x =>
    if raised x.cls then { x with hold := x.cls.minHold, clearReady := false } else x := by
  refine ⟨fun x => ?_, ?_⟩
  · dsimp only
    split <;> rfl
  · exact if_neg (by simp [Context.base, base])

section
variable {p : Protection} {raised withdrawn : ProtClass → Bool}

theorem Protection.Marked.refl (p : Protection) : p.Marked p (fun _ => false) (fun _ => false) :=
  ⟨by simp, by simp, by simp⟩

theorem Protection.Marked.onStack {q : Protection} (h : p.Marked q raised withdrawn) (c : ProtClass) :
    q.onStack c = p.onStack c := by
  simp only [Protection.onStack, h.stack, List.any_map]
  congr 1
  funext x
  dsimp only [Function.comp_apply]
  split <;> rfl

theorem Protection.Marked.topLevel {q : Protection} (h : p.Marked q raised withdrawn) : q.topLevel = p.topLevel := by
  unfold Protection.topLevel Protection.top
  rw [h.stack]
  cases p.stack with
  | nil => rfl
  | cons x rest =>
    rw [List.map_cons]
    dsimp only
    cases raised x.cls <;> rfl

/-- One more class is raised: what a raise does to the classes beside it, and to it. -/
theorem Protection.Marked.raised_of {q q' : Protection} (h : p.Marked q raised withdrawn) {c : ProtClass}
    (notWithdrawn : withdrawn c = false)
    (stack : q'.stack = p.stack.map fun x =>
      if (raised x.cls || (x.cls == c && true)) = true then { x with hold := x.cls.minHold, clearReady := false } else x)
    (others : ∀ d, d ≠ c →
      (d ∈ q'.deferredSet ↔ d ∈ q.deferredSet) ∧ (d ∈ q'.pendingSet ↔ d ∈ q.pendingSet))
    (deferred : c ∈ q'.deferredSet ↔ c ∈ p.deferredSet ∨
      (p.onStack c = false ∧ c ∉ p.pendingSet ∧ c.level < p.topLevel))
    (pending : c ∈ q'.pendingSet ↔ c ∈ p.pendingSet ∨
      (p.onStack c = false ∧ c ∉ p.pendingSet ∧ c ∉ p.deferredSet ∧ p.topLevel ≤ c.level)) :
    p.Marked q' (fun d => raised d || (d == c && true)) (fun d => withdrawn d || (d == c && false)) := by
  refine ⟨stack, fun d => ?_, fun d => ?_⟩
  · by_cases same : d = c
    · subst same; simp [deferred]
    · simp [(others d same).1, h.deferred, same]
  · by_cases same : d = c
    · subst same; simp [pending, notWithdrawn]
    · simp [(others d same).2, h.pending, same]

/-- One more class is judged, which was not judged before. -/
theorem Protection.Marked.mark {s : State} (h : p.Marked s.prot raised withdrawn) (apart : s.prot.Apart) {c : ProtClass}
    (notRaised : raised c = false) (notWithdrawn : withdrawn c = false) (r w : Bool) (one : r = true → w = false) :
    p.Marked (s.mark c r w).prot (fun d => raised d || (d == c && r)) (fun d => withdrawn d || (d == c && w)) := by
  have top := h.topLevel
  have on := h.onStack c
  have pendingC : c ∈ s.prot.pendingSet ↔ c ∈ p.pendingSet := by simp [h.pending, notRaised, notWithdrawn]
  have deferredC : c ∈ s.prot.deferredSet ↔ c ∈ p.deferredSet := by simp [h.deferred, notRaised]
  cases r
  · cases w
    · simpa [State.mark] using h
    · refine ⟨by simpa [State.mark, State.withdraw] using h.stack, by simpa [State.mark, State.withdraw] using h.deferred,
        fun d => ?_⟩
      have erased : d ∈ (s.mark c false true).prot.pendingSet ↔ d ≠ c ∧ d ∈ s.prot.pendingSet :=
        apart.pending_nodup.mem_erase_iff
      rw [erased, h.pending]
      by_cases same : d = c
      · subst same; simp [notRaised]
      · simp [same]
  obtain rfl : w = false := one rfl
  change p.Marked (s.raiseWith true c none).prot _ _
  have others (d : ProtClass) (ne : d ≠ c) : (raised d || (d == c && true)) = raised d := by simp [ne]
  have unstacked (off : s.prot.onStack c = false) : s.prot.stack = p.stack.map fun x =>
      if (raised x.cls || (x.cls == c && true)) = true then { x with hold := x.cls.minHold, clearReady := false } else x := by
    rw [h.stack]
    refine List.map_congr_left fun x mem => ?_
    rw [others x.cls (Protection.onStack_eq_false_iff.1 (on ▸ off) x mem)]
  obtain ⟨stacked, eq⟩ | ⟨off, known, eq⟩ | ⟨off, notPending, notDeferred, below, -, eq⟩ | ⟨-, -, -, -, idle, -⟩ |
    ⟨off, notPending, notDeferred, above, eq⟩ := s.raiseWith_cases true c none
  · have here : p.onStack c = true := on ▸ stacked
    rw [eq]
    refine h.raised_of notWithdrawn ?_ (fun d ne => ⟨.rfl, .rfl⟩) (deferredC.trans (by simp [here]))
      (pendingC.trans (by simp [here]))
    simp only [State.refresh, h.stack, List.map_map]
    refine List.map_congr_left fun x mem => ?_
    by_cases own : x.cls = c
    · simp [own, notRaised, Context.refresh]
    · by_cases earlier : raised x.cls = true <;> simp [own, earlier]
  · rw [eq]
    rw [pendingC, deferredC] at known
    exact h.raised_of notWithdrawn (unstacked off) (fun d ne => ⟨.rfl, .rfl⟩) (deferredC.trans (by tauto))
      (pendingC.trans (by tauto))
  · rw [eq]
    rw [pendingC] at notPending
    rw [deferredC] at notDeferred
    have low : c.level < p.topLevel := top ▸ below
    exact h.raised_of notWithdrawn (unstacked off) (fun d ne => ⟨by simp [mem_insertClass, ne], .rfl⟩)
      (by simp [mem_insertClass, ← on, off, notPending, low]) (pendingC.trans (by simp [notPending, not_le.2 low]))
  · cases idle
  · rw [eq]
    rw [pendingC] at notPending
    rw [deferredC] at notDeferred
    have high : p.topLevel ≤ c.level := top ▸ above
    exact h.raised_of notWithdrawn (unstacked off) (fun d ne => ⟨.rfl, by simp [mem_insertClass, ne]⟩)
      (deferredC.trans (by simp [notDeferred, not_lt.2 high]))
      (by simp [mem_insertClass, ← on, off, notPending, notDeferred, high])

end

/-! ### The fold over the deferred set -/

/-- Classes that are not below the top all become pending. -/
theorem State.raises_above (l : List ProtClass) (nodup : l.Nodup) {t : State} (free : ∀ c ∈ l, t.prot.onStack c = false ∧
    c ∉ t.prot.pendingSet ∧ c ∉ t.prot.deferredSet ∧ t.prot.topLevel ≤ c.level) :
    l.foldl (fun t c => t.raiseWith false c none) t =
      { t with prot := { t.prot with pendingSet := l.foldl (fun d c => insertClass c d) t.prot.pendingSet } } := by
  induction l generalizing t with
  | nil => rfl
  | cons c rest ih =>
    obtain ⟨off, notPending, notDeferred, above⟩ := free c List.mem_cons_self
    obtain ⟨fresh, nodup⟩ := List.nodup_cons.1 nodup
    rw [List.foldl_cons, State.raiseWith_of_not_below off notPending notDeferred above]
    refine ih nodup fun d mem => ?_
    obtain ⟨off, notPending, notDeferred, above⟩ := free d (List.mem_cons_of_mem _ mem)
    refine ⟨off, fun is => ?_, notDeferred, above⟩
    obtain rfl | is := mem_insertClass.1 is
    · exact fresh mem
    · exact notPending is

theorem Protection.Apart.deferred_nodup {p : Protection} (h : p.Apart) : p.deferredSet.Nodup :=
  (List.pairwise_map.1 h.deferredSorted).imp fun lt eq => lt.ne (congrArg _ eq)

/-- The deferred set judged where no class of it is below the top (R161). -/
theorem State.judgeDeferred_above {a : State} (apart : a.prot.Apart)
    (above : ∀ c ∈ a.prot.deferredSet, a.prot.topLevel ≤ c.level) : a.judgeDeferred = { a with prot := { a.prot with
      deferredSet := []
      pendingSet := a.prot.deferredSet.foldl (fun d c => insertClass c d) a.prot.pendingSet } } :=
  State.raises_above a.prot.deferredSet apart.deferred_nodup (t := { a with prot := { a.prot with deferredSet := [] } })
    fun c mem => ⟨(apart.deferred c mem).1, (apart.deferred c mem).2.1, List.not_mem_nil, above c mem⟩

/-- The deferred set judged with its lowest class below the top: that one is taken, the others become pending (R161). -/
theorem State.judgeDeferred_below {a : State} (apart : a.prot.Apart) {c : ProtClass} {rest : List ProtClass}
    (deferred : a.prot.deferredSet = c :: rest) (below : c.level < a.prot.topLevel) :
    ∃ t, t = State.take { a with prot := { a.prot with deferredSet := [] } } c ∧
    a.judgeDeferred = { t with prot := { t.prot with
      pendingSet := rest.foldl (fun d c => insertClass c d) t.prot.pendingSet } } := by
  have sorted := apart.deferredSorted
  have nodup := apart.deferred_nodup
  rw [deferred] at sorted nodup
  obtain ⟨off, notPending, -⟩ := apart.deferred c (deferred ▸ List.mem_cons_self)
  have first : State.raiseWith { a with prot := { a.prot with deferredSet := [] } } false c none =
      State.take { a with prot := { a.prot with deferredSet := [] } } c :=
    State.raiseWith_of_below off notPending List.not_mem_nil below
  refine ⟨_, rfl, ?_⟩
  unfold State.judgeDeferred
  rw [deferred, List.foldl_cons, first]
  refine State.raises_above rest nodup.of_cons fun d mem => ?_
  obtain ⟨offD, notPendingD, -⟩ := apart.deferred d (deferred ▸ List.mem_cons_of_mem _ mem)
  have later : c.level < d.level := (List.pairwise_cons.1 sorted).1 _ (List.mem_map_of_mem mem)
  have ne : c ≠ d := fun is => later.ne (congrArg _ is)
  rw [State.take_prot]
  refine ⟨?_, fun is => notPendingD (List.mem_of_mem_erase is), List.not_mem_nil, later.le⟩
  simpa [Protection.onStack, State.newContext, ne] using offD

theorem Protection.Apart.lowest_of_not_above {p : Protection} (h : p.Apart)
    (not : ¬ ∀ c ∈ p.deferredSet, p.topLevel ≤ c.level) :
    ∃ c rest, p.deferredSet = c :: rest ∧ c.level < p.topLevel := by
  push Not at not
  obtain ⟨d, mem, low⟩ := not
  have sorted := h.deferredSorted
  cases deferred : p.deferredSet with
  | nil => simp [deferred] at mem
  | cons c rest =>
    refine ⟨c, rest, rfl, ?_⟩
    rw [deferred] at mem sorted
    obtain rfl | later := List.mem_cons.1 mem
    · exact low
    · exact ((List.pairwise_cons.1 sorted).1 _ (List.mem_map_of_mem later)).trans low

/-- The deferred set judged after the raises and withdrawals of a completion (R161). -/
theorem Protection.Marked.judged {p : Protection} {a : State} {raised withdrawn : ProtClass → Bool}
    (h : p.Marked a.prot raised withdrawn) (apart : a.prot.Apart) (one : ∀ c, raised c = true → withdrawn c = false) :
    p.Judged a.judgeDeferred.prot raised withdrawn a.bus.seq a.gov.uRef a.gov.output a.meas.faultOrder := by
  have waits (c : ProtClass) : c ∈ a.prot.deferredSet ∨ c ∈ a.prot.pendingSet ↔ c ∈ a.prot.deferredSet ∨
      (c ∈ p.pendingSet ∧ withdrawn c = false) ∨ (raised c = true ∧ p.onStack c = false) := by
    rw [h.deferred, h.pending]
    have only := one c
    by_cases low : c.level < p.topLevel
    · tauto
    · have high : p.topLevel ≤ c.level := Nat.not_lt.1 low
      tauto
  by_cases above : ∀ c ∈ a.prot.deferredSet, a.prot.topLevel ≤ c.level
  · have untaken (c : ProtClass) (deferred : c ∈ a.prot.deferredSet) (below : c.level < p.topLevel) : False :=
      absurd (h.topLevel ▸ above c deferred) (Nat.not_le.2 below)
    rw [State.judgeDeferred_above apart above]
    refine ⟨rfl, ⟨[], h.stack, by simp, by simp⟩, fun c => ?_, fun c => ?_⟩
    · refine (Bool.eq_iff_iff.1 (h.onStack c)).trans ⟨.inl, fun or => or.elim id fun ⟨deferred, below, _⟩ => ?_⟩
      exact (untaken c ((h.deferred c).2 deferred) below).elim
    · refine mem_insertClasses.trans ((waits c).trans ?_)
      rw [h.deferred]
      exact ⟨fun kept => ⟨fun ⟨deferred, below, _⟩ => untaken c ((h.deferred c).2 deferred) below, kept⟩, And.right⟩
  · obtain ⟨c, rest, deferred, below⟩ := apart.lowest_of_not_above above
    have mem : c ∈ a.prot.deferredSet := deferred ▸ List.mem_cons_self
    have lowest (d : ProtClass) (memD : d ∈ a.prot.deferredSet) : c.level ≤ d.level := by
      have sorted := apart.deferredSorted
      rw [deferred] at sorted memD
      obtain rfl | later := List.mem_cons.1 memD
      · exact le_rfl
      · exact ((List.pairwise_cons.1 sorted).1 _ (List.mem_map_of_mem later)).le
    have taken (d : ProtClass) : (d ∈ a.prot.deferredSet ∧ d.level < p.topLevel ∧
        ∀ e, e ∈ a.prot.deferredSet → d.level ≤ e.level) ↔ d = c := by
      refine ⟨fun ⟨memD, _, least⟩ => ProtClass.level_injective (le_antisymm (least c mem) (lowest d memD)), ?_⟩
      rintro rfl
      exact ⟨mem, h.topLevel ▸ below, lowest⟩
    simp only [h.deferred] at taken
    obtain ⟨t, rfl, judged⟩ := State.judgeDeferred_below apart deferred below
    rw [judged, State.take_prot]
    refine ⟨rfl, ⟨[State.newContext a c], by rw [← h.stack]; rfl, le_rfl, by simp [State.newContext]⟩, fun d => ?_, fun d => ?_⟩
    · refine Iff.trans ?_ (or_congr_right (taken d).symm)
      rw [← h.onStack]
      have pushed : (Protection.onStack { a.prot with stack := a.newContext c :: a.prot.stack } d = true) ↔
          a.prot.onStack d = true ∨ d = c := by
        simp only [Protection.onStack, List.any_cons, Bool.or_eq_true, beq_iff_eq, State.newContext]
        exact or_comm.trans (or_congr_right eq_comm)
      exact pushed
    · have kept := (waits d).trans (or_congr_left (h.deferred d))
      refine Iff.trans ?_ ((and_congr_right' kept).trans (and_congr_left' (not_congr (taken d)).symm))
      have fresh : c ∉ rest := (List.nodup_cons.1 (deferred ▸ apart.deferred_nodup)).1
      refine mem_insertClasses.trans ?_
      rw [deferred, List.mem_cons, apart.pending_nodup.mem_erase_iff]
      by_cases same : d = c
      · subst same; simp [fresh]
      · simp [same]

end Sys2Proof.Machine

end

section
/-! SUPPORT. The completion of an update (R84, R103, R104, R160 to R162): from the stored results to the judgement of the
deferred set. -/

namespace Sys2Proof.Machine

/-! ### What raises never undo -/

/-- A class the protection unit has taken note of: on the stack, pending or deferred. -/
def Protection.Known (p : Protection) (c : ProtClass) : Prop :=
  p.onStack c = true ∨ c ∈ p.pendingSet ∨ c ∈ p.deferredSet

section
variable (s : State)

theorem State.take_onStack (c d : ProtClass) : (s.take c).prot.onStack d = true ↔ d = c ∨ s.prot.onStack d = true := by
  rw [State.take_prot]
  simp only [Protection.onStack, List.any_cons, Bool.or_eq_true, beq_iff_eq, State.newContext]
  exact or_congr_left eq_comm

theorem State.raiseWith_known (f : Bool) (c : ProtClass) {d : ProtClass} (known : s.prot.Known d) :
    (s.raiseWith f c none).prot.Known d := by
  obtain ⟨-, eq⟩ | ⟨-, -, eq⟩ | ⟨-, -, -, -, -, eq⟩ | ⟨-, -, -, -, -, eq⟩ | ⟨-, -, -, -, eq⟩ :=
    s.raiseWith_cases f c none <;> rw [eq]
  · exact known.imp_left (onStack_refresh s.prot c d none).trans
  · exact known
  · exact known.imp_right (Or.imp_right fun mem => mem_insertClass.2 (.inr mem))
  · obtain on | pending | deferred := known
    · exact .inl ((s.take_onStack c d).2 (.inr on))
    · by_cases same : d = c
      · exact .inl ((s.take_onStack c d).2 (.inl same))
      · rw [State.take_prot]
        exact .inr (.inl ((List.mem_erase_of_ne same).2 pending))
    · rw [State.take_prot]
      exact .inr (.inr deferred)
  · exact known.imp_right (Or.imp_left fun mem => mem_insertClass.2 (.inr mem))

theorem State.raiseWith_knows (f : Bool) (c : ProtClass) : (s.raiseWith f c none).prot.Known c := by
  obtain ⟨on, eq⟩ | ⟨-, known, eq⟩ | ⟨-, -, -, -, -, eq⟩ | ⟨-, -, -, -, -, eq⟩ | ⟨-, -, -, -, eq⟩ :=
    s.raiseWith_cases f c none <;> rw [eq]
  · exact .inl ((onStack_refresh s.prot c c none).trans on)
  · exact .inr known
  · exact .inr (.inr (mem_insertClass.2 (.inl rfl)))
  · exact .inl ((s.take_onStack c c).2 (.inl rfl))
  · exact .inr (.inl (mem_insertClass.2 (.inl rfl)))

theorem State.take_suffix (c : ProtClass) : s.prot.stack.map Context.cls <:+ (s.take c).prot.stack.map Context.cls := by
  rw [State.take_prot]
  exact List.suffix_cons _ _

theorem State.take_urgent (c : ProtClass) : s.bus.urgent <+: (s.take c).bus.urgent := by
  have offered := (State.offerUrgent_reportKeeps { s with prot := { s.prot with
    stack := s.newContext c :: s.prot.stack, pendingSet := s.prot.pendingSet.erase c } }
    (takeAlert c (s.newContext c).channels)).urgent
  unfold State.take
  split_ifs <;> exact offered

theorem State.raiseWith_suffix (f : Bool) (c : ProtClass) :
    s.prot.stack.map Context.cls <:+ (s.raiseWith f c none).prot.stack.map Context.cls ∧
    s.bus.urgent <+: (s.raiseWith f c none).bus.urgent := by
  obtain ⟨-, eq⟩ | ⟨-, -, eq⟩ | ⟨-, -, -, -, -, eq⟩ | ⟨-, -, -, -, -, eq⟩ | ⟨-, -, -, -, eq⟩ :=
    s.raiseWith_cases f c none <;> rw [eq]
  · refine ⟨?_, List.prefix_refl _⟩
    have same : (s.refresh c none).prot.stack.map Context.cls = s.prot.stack.map Context.cls := by
      simp only [State.refresh, List.map_map]
      refine List.map_congr_left fun x _ => ?_
      dsimp only [Function.comp_apply]
      split <;> rfl
    rw [same]
  · exact ⟨List.suffix_refl _, List.prefix_refl _⟩
  · exact ⟨List.suffix_refl _, List.prefix_refl _⟩
  · exact ⟨s.take_suffix c, s.take_urgent c⟩
  · exact ⟨List.suffix_refl _, List.prefix_refl _⟩

/-- No raise is deferred once no update is in flight. -/
theorem State.raiseWith_deferredSet (c : ProtClass) : (s.raiseWith false c none).prot.deferredSet = s.prot.deferredSet := by
  obtain ⟨-, eq⟩ | ⟨-, -, eq⟩ | ⟨-, -, -, -, flying, -⟩ | ⟨-, -, -, -, -, eq⟩ | ⟨-, -, -, -, eq⟩ :=
    s.raiseWith_cases false c none
  · rw [eq]; rfl
  · rw [eq]
  · cases flying
  · rw [eq, State.take_prot]
  · rw [eq]

/-! ### The judgement of the deferred set -/

theorem State.raises_keep (l : List ProtClass) :
    (l.foldl (fun t c => t.raiseWith false c none) s).prot.deferredSet = s.prot.deferredSet ∧
    (s.prot.stack.map Context.cls <:+
      (l.foldl (fun t c => t.raiseWith false c none) s).prot.stack.map Context.cls ∧
    s.bus.urgent <+: (l.foldl (fun t c => t.raiseWith false c none) s).bus.urgent) ∧
    (∀ c, s.prot.Known c → (l.foldl (fun t c => t.raiseWith false c none) s).prot.Known c) ∧
    ∀ c ∈ l, (l.foldl (fun t c => t.raiseWith false c none) s).prot.Known c := by
  induction l generalizing s with
  | nil => exact ⟨rfl, ⟨List.suffix_refl _, List.prefix_refl _⟩, fun _ => id, nofun⟩
  | cons c rest ih =>
    obtain ⟨deferred, ⟨suffix, urgent⟩, known, knows⟩ := ih (s.raiseWith false c none)
    obtain ⟨suffixC, urgentC⟩ := s.raiseWith_suffix false c
    refine ⟨deferred.trans (s.raiseWith_deferredSet c), ⟨suffixC.trans suffix, urgentC.trans urgent⟩,
      fun d is => known d (s.raiseWith_known false c is), fun d mem => ?_⟩
    obtain rfl | later := List.mem_cons.1 mem
    · exact known d (s.raiseWith_knows false d)
    · exact knows d later

theorem State.judgeDeferred_deferredSet : s.judgeDeferred.prot.deferredSet = [] :=
  (State.raises_keep { s with prot := { s.prot with deferredSet := [] } } s.prot.deferredSet).1

theorem State.judgeDeferred_suffix : s.prot.stack.map Context.cls <:+ s.judgeDeferred.prot.stack.map Context.cls ∧
    s.bus.urgent <+: s.judgeDeferred.bus.urgent :=
  (State.raises_keep { s with prot := { s.prot with deferredSet := [] } } s.prot.deferredSet).2.1

theorem State.judgeDeferred_settles {c : ProtClass} (known : s.prot.Known c) :
    s.judgeDeferred.prot.onStack c = true ∨ c ∈ s.judgeDeferred.prot.pendingSet := by
  obtain ⟨-, -, keeps, knows⟩ :=
    State.raises_keep { s with prot := { s.prot with deferredSet := [] } } s.prot.deferredSet
  have still : s.judgeDeferred.prot.Known c := by
    obtain on | pending | deferred := known
    · exact keeps c (.inl on)
    · exact keeps c (.inr (.inl pending))
    · exact knows c deferred
  rw [Protection.Known, State.judgeDeferred_deferredSet] at still
  simpa using still

/-- A deferred STOP is the one that is taken (R161, R168). -/
theorem State.judgeDeferred_stop {a : State} (apart : a.prot.Apart) (mem : .stop ∈ a.prot.deferredSet) :
    a.judgeDeferred.prot.top = .stop ∧ a.judgeDeferred.counters.stopTakes = min 65535 (a.counters.stopTakes + 1) := by
  have below : ProtClass.stop.level < a.prot.topLevel := Protection.stop_below_top (apart.deferred .stop mem).1
  obtain ⟨c, rest, deferred, lowC⟩ := apart.lowest_of_not_above fun above => absurd (above .stop mem) (Nat.not_le.2 below)
  have sorted := apart.deferredSorted
  rw [deferred] at sorted mem
  obtain rfl : c = .stop := by
    obtain same | later := List.mem_cons.1 mem
    · exact same.symm
    · exact absurd ((List.pairwise_cons.1 sorted).1 _ (List.mem_map_of_mem later)) (Nat.not_lt_zero _)
  obtain ⟨t, rfl, judged⟩ := State.judgeDeferred_below apart deferred lowC
  rw [judged, State.take_prot]
  refine ⟨rfl, ?_⟩
  have offered := (State.offerUrgent_reportKeeps { a with prot := { a.prot with
    deferredSet := [], stack := State.newContext a .stop :: a.prot.stack
    pendingSet := a.prot.pendingSet.erase .stop } } (.alert .stopTaken [])).stopTakes
  exact congrArg (fun n => min 65535 (n + 1)) offered

end

section
variable (s : State)

theorem State.mark_keeps_deferred (c : ProtClass) (r w : Bool) {d : ProtClass} (mem : d ∈ s.prot.deferredSet) :
    d ∈ (s.mark c r w).prot.deferredSet := by
  unfold State.mark
  split_ifs
  · obtain ⟨-, eq⟩ | ⟨-, -, eq⟩ | ⟨-, -, -, -, -, eq⟩ | ⟨-, -, -, -, idle, -⟩ | ⟨-, -, -, -, eq⟩ :=
      s.raiseWith_cases true c none
    · rw [eq]; exact mem
    · rw [eq]; exact mem
    · rw [eq]; exact mem_insertClass.2 (.inr mem)
    · cases idle
    · rw [eq]; exact mem
  · exact mem
  · exact mem

theorem State.mark_known {c d : ProtClass} (other : d ≠ c) (r w : Bool) (known : s.prot.Known d) :
    (s.mark c r w).prot.Known d := by
  unfold State.mark
  split_ifs
  · exact s.raiseWith_known true c known
  · exact known.imp_right (Or.imp_left (List.mem_erase_of_ne other).2)
  · exact known

end

/-! ### From the state before the raises to the judgement -/

theorem Protection.Apart.of_same {p q : Protection} (h : p.Apart) (stack : q.stack = p.stack)
    (pendingSet : q.pendingSet = p.pendingSet) (deferredSet : q.deferredSet = p.deferredSet) : q.Apart := by
  obtain ⟨ordered, pendingSorted, deferredSorted, pending, deferred⟩ := h
  have onStack (c : ProtClass) : q.onStack c = p.onStack c := by simp only [Protection.onStack, stack]
  exact ⟨by simpa only [Protection.StackOrdered, stack] using ordered, pendingSet ▸ pendingSorted,
    deferredSet ▸ deferredSorted, by simpa only [pendingSet, onStack] using pending,
    by simpa only [pendingSet, deferredSet, onStack] using deferred⟩

/-- The state `a` is `s` with the classes of `raised` raised and those of `withdrawn` withdrawn during an update. -/
structure State.Raised (s a : State) (raised withdrawn : ProtClass → Bool) : Prop where
  marked : s.prot.Apart → s.prot.Marked a.prot raised withdrawn
  apart : s.prot.Apart → a.prot.Apart
  deferred : ∀ c ∈ s.prot.deferredSet, c ∈ a.prot.deferredSet
  known : ∀ c, raised c = true → a.prot.Known c
  suffix : s.prot.stack.map Context.cls <:+ a.prot.stack.map Context.cls
  urgent : s.bus.urgent <+: a.bus.urgent
  seq : a.bus.seq = s.bus.seq
  stopTakes : a.counters.stopTakes = s.counters.stopTakes
  faults : a.meas.faultOrder = s.meas.faultOrder
  one : ∀ c, raised c = true → withdrawn c = false

section
variable {s a b : State} {raised withdrawn : ProtClass → Bool}

theorem State.Raised.refl (s : State) : s.Raised s (fun _ => false) (fun _ => false) :=
  ⟨fun _ => .refl _, id, fun _ => id, nofun, List.suffix_refl _, List.prefix_refl _, rfl, rfl, rfl, nofun⟩

theorem State.Raised.of_same (h : s.Raised a raised withdrawn) (stack : b.prot.stack = a.prot.stack)
    (pendingSet : b.prot.pendingSet = a.prot.pendingSet) (deferredSet : b.prot.deferredSet = a.prot.deferredSet)
    (bus : b.bus = a.bus) (counters : b.counters = a.counters) (meas : b.meas.faultOrder = a.meas.faultOrder) :
    s.Raised b raised withdrawn := by
  obtain ⟨marked, apart, deferred, known, suffix, urgent, seq, stopTakes, faults, one⟩ := h
  refine ⟨fun h => ?_, fun h => (apart h).of_same stack pendingSet deferredSet, deferredSet ▸ deferred, fun c is => ?_,
    stack ▸ suffix, bus ▸ urgent, bus ▸ seq, counters ▸ stopTakes, meas ▸ faults, one⟩
  · obtain ⟨stackA, deferredA, pendingA⟩ := marked h
    exact ⟨stack.trans stackA, deferredSet ▸ deferredA, pendingSet ▸ pendingA⟩
  · simpa only [Protection.Known, Protection.onStack, stack, pendingSet, deferredSet] using known c is

theorem State.Raised.endUpdate (h : s.Raised a raised withdrawn) : s.Raised a.endUpdate raised withdrawn :=
  h.of_same rfl rfl rfl rfl rfl rfl

/-- A class that was not judged before is raised, withdrawn or left. -/
theorem State.Raised.mark (h : s.Raised a raised withdrawn) {c : ProtClass} (ne : c ≠ .stop)
    (notRaised : raised c = false) (notWithdrawn : withdrawn c = false) (r w : Bool) (one : r = true → w = false) :
    s.Raised (a.mark c r w) (fun d => raised d || (d == c && r)) (fun d => withdrawn d || (d == c && w)) := by
  have quiet : a.Quiet (a.mark c r w) := by
    unfold State.mark
    split_ifs
    · exact a.raiseWith_quiet ne _ _
    · exact ⟨rfl, rfl, rfl, rfl, List.prefix_refl _, rfl, rfl, rfl, rfl⟩
    · exact .refl a
  have suffix : a.prot.stack.map Context.cls <:+ (a.mark c r w).prot.stack.map Context.cls := by
    unfold State.mark
    split_ifs
    · exact (a.raiseWith_suffix true c).1
    · exact List.suffix_refl _
    · exact List.suffix_refl _
  refine ⟨fun apart => (h.marked apart).mark (h.apart apart) notRaised notWithdrawn r w one,
    fun apart => (a.mark_moves c r w).keeps (P := fun t => t.prot.Apart) Move.keeps_apart (h.apart apart),
    fun d mem => a.mark_keeps_deferred c r w (h.deferred d mem), fun d is => ?_, h.suffix.trans suffix, h.urgent.trans quiet.urgent, ?_, ?_, ?_, fun d is => ?_⟩
  · by_cases same : d = c
    · subst same
      simp only [notRaised, beq_self_eq_true, Bool.true_and, Bool.false_or] at is
      subst is
      exact a.raiseWith_knows true d
    · simp only [beq_eq_false_iff_ne.2 same, Bool.false_and, Bool.or_false] at is
      exact a.mark_known same r w (h.known d is)
  · rw [quiet.bus]; exact h.seq
  · rw [quiet.counters]; exact h.stopTakes
  · rw [quiet.meas]; exact h.faults
  · by_cases same : d = c
    · subst same
      simp only [notRaised, notWithdrawn, beq_self_eq_true, Bool.true_and, Bool.false_or] at is ⊢
      exact one is
    · simp only [beq_eq_false_iff_ne.2 same, Bool.false_and, Bool.or_false] at is ⊢
      exact h.one d is

end

/-- What the judgement of the deferred set leaves, told from the state before the raises (R161). -/
structure State.DeferredJudged (s t : State) (raised withdrawn : ProtClass → Bool) (speed torque : Int) : Prop where
  deferredSet : t.prot.deferredSet = []
  settled : ∀ c, c ∈ s.prot.deferredSet ∨ raised c = true → t.prot.onStack c = true ∨ c ∈ t.prot.pendingSet
  judged : s.StackInv → s.prot.Judged t.prot raised withdrawn s.bus.seq speed torque s.meas.faultOrder ∧
    (.stop ∈ s.prot.deferredSet → t.prot.top = .stop ∧
      t.counters.stopTakes = min 65535 (s.counters.stopTakes + 1))
  suffix : s.prot.stack.map Context.cls <:+ t.prot.stack.map Context.cls
  urgent : s.bus.urgent <+: t.bus.urgent

theorem State.Raised.deferredJudged {s a : State} {raised withdrawn : ProtClass → Bool}
    (h : s.Raised a raised withdrawn) :
    s.DeferredJudged a.judgeDeferred raised withdrawn a.gov.uRef a.gov.output := by
  obtain ⟨suffix, urgent⟩ := a.judgeDeferred_suffix
  refine ⟨a.judgeDeferred_deferredSet, fun c is => State.judgeDeferred_settles a ?_, fun inv => ?_,
    h.suffix.trans suffix, h.urgent.trans urgent⟩
  · exact is.elim (fun deferred => .inr (.inr (h.deferred c deferred))) (h.known c)
  · have apart := (State.stackInv_iff.1 inv).1
    have judged := (h.marked apart).judged (h.apart apart) h.one
    rw [h.seq, h.faults] at judged
    exact ⟨judged, fun deferred => h.stopTakes ▸ State.judgeDeferred_stop (h.apart apart) (h.deferred _ deferred)⟩

/-- The raise condition of WINDING_HOT at an accumulator (R148). -/
def State.hotAt (s : State) (a : Nat) : Bool :=
  decide (45000000 ≤ a) || (!s.meas.channels.windingTemp.faulted && decide (2000 ≤ s.meas.channels.windingTemp.value))

/-- Counters equal but for urgent overflows and STOP takes. -/
theorem Counters.eq_of_rest_stop {x y : Counters} (same : x.rest = y.rest) :
    x = { y with urgentOverflows := x.urgentOverflows, stopTakes := x.stopTakes } := by
  cases x
  cases y
  simpa [Counters.rest] using same

/-- The accumulator replaced and WINDING_HOT judged with an update in flight (R146, R148). -/
theorem State.judgeWinding_marks {s : State} (live : s.station.state.live = true) (flying : s.inFlight = true) (a : Nat) :
    (s.setAccumulator a).judgeWinding = (s.setAccumulator a).mark .windingHot (s.hotAt a) (!s.hotAt a) :=
  State.judge_of_flying (s := s.setAccumulator a) live flying .windingHot (s.hotAt a)

theorem State.Raised.winding {s b : State} (prot : b.prot = s.prot) (bus : b.bus = s.bus) (counters : b.counters = s.counters)
    (faults : b.meas.faultOrder = s.meas.faultOrder) (hot : Bool) : s.Raised (b.mark .windingHot hot (!hot))
      (fun c => c == .windingHot && hot) (fun c => c == .windingHot && !hot) :=
  ((State.Raised.refl s).of_same (congrArg Protection.stack prot) (congrArg Protection.pendingSet prot)
    (congrArg Protection.deferredSet prot) bus counters faults).mark (c := .windingHot) nofun rfl rfl hot (!hot) (by cases hot <;> simp)

theorem State.Raised.accumulated (s : State) (a : Nat) (hot : Bool) :
    s.Raised ((s.setAccumulator a).mark .windingHot hot (!hot))
      (fun c => c == .windingHot && hot) (fun c => c == .windingHot && !hot) :=
  State.Raised.winding (s := s) (b := s.setAccumulator a) rfl rfl rfl rfl hot

end Sys2Proof.Machine

open Sys2Proof Sys2Proof.Machine

/-- Settles O47. -/
theorem discardedUpdates : Obligations.DiscardedUpdates := by
  intro s n live update
  have run : exec .controlUpdateCompletion s = .next s.completeDiscarded := by
    simp [exec, execControlUpdateCompletion, update, live]
  have flying : s.inFlight = true := by simp [State.inFlight, update]
  have marks := State.judgeWinding_marks live flying (s.load.accumulator - 256)
  have gov : s.coolWinding.endUpdate.gov = { s.gov with update := none } := by
    simp [State.coolWinding, State.endUpdate, State.setAccumulator]
  have raised := State.Raised.accumulated s (s.load.accumulator - 256) (s.hotAt (s.load.accumulator - 256))
  rw [← marks, ← State.coolWinding] at raised
  have raised := raised.endUpdate
  have judged := raised.deferredJudged
  rw [gov, ← State.completeDiscarded] at judged
  have prot := Protection.eq_of_rest (show s.completeDiscarded.prot.rest = s.prot.rest by
    simp [State.completeDiscarded, State.coolWinding, State.setAccumulator])
  rw [judged.deferredSet] at prot
  refine ⟨_, run, by rw [State.completeDiscarded, State.judgeDeferred_gov, gov], ?_, prot, judged.suffix,
    fun c mem => judged.settled c (.inl mem), judged.judged, ?_, ?_, ?_, ?_, ?_, ?_, BusPort.eq_of_rest ?_,
    judged.urgent, Counters.eq_of_rest_stop ?_⟩
  all_goals simp [State.completeDiscarded, State.coolWinding, State.setAccumulator]

end

section
/-! SUPPORT. The completion of an update that counts (R61, R84, R103, R104, R142, R171, R172). -/

namespace Sys2Proof.Machine

section
variable (s : State) (n : Snapshot) (u : UpdateResult)

theorem nextShortfall_eq (k : Nat) : nextShortfall k u =
    if u.uRef ≤ u.ceiling then 0
    else if u.mode = .retard ∧ u.guard = false ∧ (u.ceiling : Int) + 56 < u.uRef ∧ u.reduced = true then min 40 (k + 1)
    else k := by
  simp [nextShortfall, countTo]

/-- TORQUE_FB once it has followed the output (R61). -/
def State.torqueAfter : Int := if s.meas.channels.torqueFb.faulted then u.output else s.meas.channels.torqueFb.value

/-- The accumulator after the winding heat of a completion (R142). -/
def State.heatedAccumulator (torque : Int) : Nat :=
  min 67108863 (s.load.accumulator + torque.natAbs * torque.natAbs * 256
    / (s.station.record.continuousTorque * s.station.record.continuousTorque) - 256)

/-- The results stored, and the two faulted channels following (R61, R103). -/
def State.followed : State := { s with
  gov := { s.gov with
    output := u.output, request := u.request, mode := u.mode, vRef := u.vRef, uRef := u.uRef
    uExp := some u.uExp, expSign := u.sign, slip := u.slip, slipFactor := u.slipFactor
    persistence := u.persistence, grip := u.grip, shortfall := nextShortfall n.shortfall u, opening := false }
  meas := { s.meas with channels := { s.meas.channels with
    wheelSpeed := (if s.meas.channels.wheelSpeed.faulted then
      { s.meas.channels.wheelSpeed with value := u.uExp * u.sign } else s.meas.channels.wheelSpeed)
    torqueFb := { s.meas.channels.torqueFb with value := s.torqueAfter u } } } }

theorem State.followWheel_eq : s.followWheel = { s with meas := { s.meas with channels := { s.meas.channels with
    wheelSpeed := (if s.meas.channels.wheelSpeed.faulted then
      { s.meas.channels.wheelSpeed with value := s.gov.uExp.getD 0 * s.gov.expSign } else s.meas.channels.wheelSpeed) } } } := by
  unfold State.followWheel
  split_ifs <;> rfl

theorem State.followTorque_eq : s.followTorque = { s with meas := { s.meas with channels := { s.meas.channels with
    torqueFb := { s.meas.channels.torqueFb with
      value := if s.meas.channels.torqueFb.faulted then s.gov.output else s.meas.channels.torqueFb.value } } } } := by
  unfold State.followTorque
  split_ifs <;> rfl

theorem State.followed_eq : (s.storeUpdate n u).followWheel.followTorque = s.followed n u := by
  rw [State.followTorque_eq, State.followWheel_eq]
  rfl

theorem State.followed_hotAt (a : Nat) : (s.followed n u).hotAt a = s.hotAt a := rfl

/-- A completion before the judgement of the deferred set (R103, R104). -/
def State.computed : State :=
  (((s.storeUpdate n u).followWheel.followTorque.integrateWinding.judgeSlip n u).judgeShortfall n u).endUpdate

theorem State.completeUpdate_eq : s.completeUpdate n =
    (s.computed n (runStages s.station.record n)).judgeDeferred.completionReport n (runStages s.station.record n) := rfl

theorem State.judgeShortfall_prot : (s.judgeShortfall n u).prot = { s.prot with
    shortfallReason := if u.uRef ≤ u.ceiling then false
      else if n.shortfall < 40 ∧ nextShortfall n.shortfall u = 40 then true else s.prot.shortfallReason } := by
  unfold State.judgeShortfall
  split_ifs <;> rfl

variable {s n u}

theorem State.judgeSlip_marks (live : s.station.state.live = true) (flying : s.inFlight = true) :
    s.judgeSlip n u = s.mark .slipPersist (u.persistence == 200)
      (u.persistence != 200 && (!n.wheelFaulted || u.mode == .coast)) := by
  unfold State.judgeSlip State.mark
  by_cases reached : u.persistence = 200
  · simp [reached, State.raise, live, flying]
  · simp [reached]

theorem State.Raised.judgeShortfall {a : State} {raised withdrawn : ProtClass → Bool} (h : s.Raised a raised withdrawn) :
    s.Raised (a.judgeShortfall n u) raised withdrawn :=
  h.of_same (by rw [State.judgeShortfall_prot]) (by rw [State.judgeShortfall_prot]) (by rw [State.judgeShortfall_prot])
    (by simp) (by simp) (by simp)

/-- The raises and withdrawals of a completion (R91, R148). -/
theorem State.computed_raised (run : s.station.state = .run) (flying : s.inFlight = true) :
    s.Raised (s.computed n u)
      (fun c => (c == .windingHot && s.hotAt (s.heatedAccumulator (s.torqueAfter u))) ||
        (c == .slipPersist && u.persistence == 200))
      (fun c => (c == .windingHot && !s.hotAt (s.heatedAccumulator (s.torqueAfter u))) ||
        (c == .slipPersist && u.persistence != 200 && (!n.wheelFaulted || u.mode == .coast))) := by
  have live : (s.followed n u).station.state.live = true := by
    show s.station.state.live = true
    rw [run]; rfl
  have heated := State.judgeWinding_marks (s := s.followed n u) live flying (s.heatedAccumulator (s.torqueAfter u))
  have winding := State.Raised.winding (s := s)
    (b := (s.followed n u).setAccumulator (s.heatedAccumulator (s.torqueAfter u))) rfl rfl rfl rfl
    ((s.followed n u).hotAt (s.heatedAccumulator (s.torqueAfter u)))
  have integrated : (s.storeUpdate n u).followWheel.followTorque.integrateWinding =
      ((s.followed n u).setAccumulator (s.heatedAccumulator (s.torqueAfter u))).judgeWinding := by
    rw [State.followed_eq]
    rfl
  rw [← heated, ← integrated, State.followed_hotAt] at winding
  have still : (s.storeUpdate n u).followWheel.followTorque.integrateWinding.station.state.live = true := by
    simp [State.storeUpdate, run, StationState.live]
  have inFlight : (s.storeUpdate n u).followWheel.followTorque.integrateWinding.inFlight = true := by
    simpa [State.inFlight, State.storeUpdate] using flying
  unfold State.computed
  rw [State.judgeSlip_marks still inFlight]
  refine (State.Raised.judgeShortfall ?_).endUpdate
  have marked := winding.mark (c := .slipPersist) nofun rfl rfl (u.persistence == 200)
    (u.persistence != 200 && (!n.wheelFaulted || u.mode == .coast)) fun reached => by simp [bne, reached]
  simpa only [Bool.and_assoc] using marked

/-- What a completion leaves before the judgement of the deferred set, but for stack and sets. -/
theorem State.computed_units (s : State) (n : Snapshot) (u : UpdateResult) :
    (s.computed n u).gov = { (s.followed n u).gov with update := none } ∧
    (s.computed n u).load = { s.load with
      accumulator := s.heatedAccumulator (s.torqueAfter u)
      derate := derateOf (s.heatedAccumulator (s.torqueAfter u)) } ∧
    (s.computed n u).meas = (s.followed n u).meas ∧ (s.computed n u).station = s.station ∧
    (s.computed n u).peers = s.peers ∧ (s.computed n u).geo = s.geo ∧ (s.computed n u).grid = s.grid ∧
    (s.computed n u).pins = s.pins ∧ (s.computed n u).bus.rest = s.bus.rest ∧
    (s.computed n u).counters.rest = s.counters.rest ∧
    (s.computed n u).prot.rest = { s.prot.rest with
      shortfallReason := if u.uRef ≤ u.ceiling then false
        else if n.shortfall < 40 ∧ nextShortfall n.shortfall u = 40 then true else s.prot.shortfallReason } := by
  have load : (s.followed n u).integrateWinding.load = { s.load with
      accumulator := s.heatedAccumulator (s.torqueAfter u)
      derate := derateOf (s.heatedAccumulator (s.torqueAfter u)) } := by
    rw [State.integrateWinding, State.judgeWinding, State.judge_load]
    rfl
  have rest (a : State) : (a.judgeShortfall n u).prot.rest = { a.prot.rest with
      shortfallReason := if u.uRef ≤ u.ceiling then false
        else if n.shortfall < 40 ∧ nextShortfall n.shortfall u = 40 then true else a.prot.rest.shortfallReason } := by
    rw [State.judgeShortfall_prot]
    rfl
  unfold State.computed
  rw [State.followed_eq]
  simp only [State.endUpdate_prot, rest, State.judgeSlip_prot_rest, State.integrateWinding_prot_rest]
  refine ⟨?_, ?_, ?_, ?_, ?_, ?_, ?_, ?_, ?_, ?_, rfl⟩
  · simp [State.endUpdate]
  · simpa using load
  all_goals simp
  all_goals rfl

/-- The state of an entry to HELD before its ALERT (R85, R171). -/
def State.heldState (s : State) : State := { s with
  station := { s.station with state := .held }
  gov := { s.gov with output := 0, request := 0, shortfall := 0, mode := .hold }
  prot := { s.prot with shortfallReason := false, heldReason := true }
  meas := { s.meas with channels := { s.meas.channels with torqueFb :=
    (if s.meas.channels.torqueFb.faulted then { s.meas.channels.torqueFb with value := 0 }
      else s.meas.channels.torqueFb) } } }

theorem State.enterHeld_eq (s : State) : s.enterHeld = s.heldState.alert .holdEntered [] := by
  rw [State.enterHeld, State.departRun_eq]
  rfl

/-- The report of a completion without an entry to HELD (R172). -/
theorem State.completionReport_of_stay {s : State} (stay : u.output ≠ 0 ∨ 30 < u.uRef.natAbs ∨ s.gov.holdMarker = false) :
    s.completionReport n u = { s with prot := { s.prot with
      heldReason := if 200 ≤ u.output.natAbs ∨ n.demand.demand.propel = 0 then false else s.prot.heldReason } } := by
  have none : ¬ (u.output = 0 ∧ u.uRef.natAbs ≤ 30 ∧ s.gov.holdMarker = true) := by
    rintro ⟨zero, standing, marker⟩
    rcases stay with moves | moves | moves
    · exact moves zero
    · omega
    · exact absurd (marker.symm.trans moves) (by decide)
  unfold State.completionReport
  rw [if_neg none]
  split_ifs <;> rfl

end

end Sys2Proof.Machine

open Sys2Proof Sys2Proof.Machine

theorem exec_controlUpdateCompletion {s : State} {n : Snapshot} (run : s.station.state = .run)
    (update : s.gov.update = some ⟨n, false⟩) : exec .controlUpdateCompletion s = .next (s.completeUpdate n) := by
  simp [exec, execControlUpdateCompletion, update, run, StationState.live]

/-- Settles O45. -/
theorem updateCompletions : Obligations.UpdateCompletions := by
  intro s n run update
  have exec_eq := exec_controlUpdateCompletion run update
  rw [State.completeUpdate_eq] at exec_eq
  intro u short torque heat acc hot raised withdrawn stay
  have flying : s.inFlight = true := by simp [State.inFlight, update]
  obtain ⟨gov, load, meas, station, peers, geo, grid, pins, bus, counters, prot⟩ := s.computed_units n u
  have judged := (State.computed_raised (n := n) (u := u) run flying).deferredJudged
  have shortEq : nextShortfall n.shortfall u = short := nextShortfall_eq u n.shortfall
  rw [shortEq] at prot
  rw [gov] at judged
  have govJ := (s.computed n u).judgeDeferred_gov.trans gov
  have protJ := (s.computed n u).judgeDeferred_prot_rest.trans prot
  have still := State.completionReport_of_stay (s := (s.computed n u).judgeDeferred) (n := n) (u := u)
    (by rw [govJ]; exact stay)
  refine ⟨_, exec_eq, ?_⟩
  rw [still]
  have held := congrArg Protection.heldReason protJ
  have shortfall := congrArg Protection.shortfallReason protJ
  have firstCause := congrArg Protection.firstCause protJ
  have causes := congrArg Protection.causes protJ
  have grace := congrArg Protection.grace protJ
  have stopLine := congrArg Protection.stopLine protJ
  refine ⟨govJ.trans ?_, (State.judgeDeferred_load _).trans load, (State.judgeDeferred_meas _).trans meas,
    judged.deferredSet, judged.settled, judged.judged, shortfall, ?_, firstCause, causes, grace, stopLine, judged.suffix,
    (State.judgeDeferred_station _).trans station, (State.judgeDeferred_peers _).trans peers,
    (State.judgeDeferred_geo _).trans geo, (State.judgeDeferred_grid _).trans grid,
    (State.judgeDeferred_pins _).trans pins, BusPort.eq_of_rest ((State.judgeDeferred_bus_rest _).trans bus),
    judged.urgent, Counters.eq_of_rest_stop ((State.judgeDeferred_counters_rest _).trans counters)⟩
  · rw [State.followed, shortEq]
  · exact congrArg (fun reason => if 200 ≤ u.output.natAbs ∨ n.demand.demand.propel = 0 then false else reason) held

/-- Settles O46. -/
theorem holdIsEntered : Obligations.HoldIsEntered := by
  intro s n run update
  have exec_eq := exec_controlUpdateCompletion run update
  rw [State.completeUpdate_eq] at exec_eq
  intro u torque heat acc hot raised withdrawn zero standing marker
  have flying : s.inFlight = true := by simp [State.inFlight, update]
  obtain ⟨gov, load, meas, station, peers, geo, grid, pins, bus, counters, prot⟩ := s.computed_units n u
  have judged := (State.computed_raised (n := n) (u := u) run flying).deferredJudged
  rw [gov] at judged
  have govJ := (s.computed n u).judgeDeferred_gov.trans gov
  have protJ := (s.computed n u).judgeDeferred_prot_rest.trans prot
  have held : (s.computed n u).judgeDeferred.completionReport n u = (s.computed n u).judgeDeferred.enterHeld :=
    if_pos ⟨zero, standing, by rw [govJ]; exact marker⟩
  rw [held, State.enterHeld_eq] at exec_eq
  have torqueEq : s.torqueAfter u = torque := by rw [State.torqueAfter, zero]
  have judged : s.DeferredJudged _ _ _ u.uRef u.output := judged
  rw [torqueEq] at load judged
  rw [zero] at judged
  have told := (State.Quiet.refl (s.computed n u).judgeDeferred.heldState).alert .holdEntered []
  have firstCause := congrArg Protection.firstCause protJ
  have causes := congrArg Protection.causes protJ
  have grace := congrArg Protection.grace protJ
  have stopLine := congrArg Protection.stopLine protJ
  have measJ := (s.computed n u).judgeDeferred_meas.trans meas
  have stationJ := (s.computed n u).judgeDeferred_station.trans station
  have loadJ := (s.computed n u).judgeDeferred_load.trans load
  have peersJ := (s.computed n u).judgeDeferred_peers.trans peers
  have geoJ := (s.computed n u).judgeDeferred_geo.trans geo
  have gridJ := (s.computed n u).judgeDeferred_grid.trans grid
  have pinsJ := (s.computed n u).judgeDeferred_pins.trans pins
  have busJ := (s.computed n u).judgeDeferred_bus_rest.trans bus
  have countersJ := (s.computed n u).judgeDeferred_counters_rest.trans counters
  generalize (s.computed n u).judgeDeferred = w at *
  have prot' : (w.heldState.alert .holdEntered []).prot = w.heldState.prot := State.alert_prot _ _ _
  refine ⟨_, exec_eq, ?_⟩
  rw [prot']
  refine ⟨?_, ?_, ?_, ?_, rfl, rfl, judged.deferredSet, judged.settled, fun inv => ?_, State.gateInhibit_of_left ?_,
    State.brakeRequest_of_left ?_, State.alert_getLast _ ?_, firstCause, causes, grace, stopLine, ?_, ?_, ?_, ?_, ?_,
    judged.urgent.trans told.urgent, ?_⟩
  · exact (State.alert_station _ _ _).trans (by rw [State.heldState, stationJ])
  · exact (State.alert_gov _ _ _).trans (by rw [State.heldState, govJ]; rfl)
  · exact (State.alert_load _ _ _).trans loadJ
  · refine (State.alert_meas _ _ _).trans ?_
    rw [State.heldState, measJ, State.followed, torqueEq]
    cases faulted : s.meas.channels.torqueFb.faulted <;> simp [torque, faulted]
  · obtain ⟨onStack, stop⟩ := judged.judged inv
    refine ⟨onStack, fun deferred => ⟨(stop deferred).1, ?_⟩⟩
    exact told.tells.stopTakes.trans (stop deferred).2
  · rw [State.alert_station]; exact nofun
  · rw [State.alert_station]; exact nofun
  · exact nofun
  · exact (State.alert_peers _ _ _).trans peersJ
  · exact (State.alert_geo _ _ _).trans geoJ
  · exact (State.alert_grid _ _ _).trans gridJ
  · exact (State.alert_pins _ _ _).trans pinsJ
  · exact BusPort.eq_of_rest ((State.alert_bus_rest _ _ _).trans busJ)
  · exact Counters.eq_of_rest_stop ((State.alert_counters_rest _ _ _).trans countersJ)

end

section
/-! SUPPORT. The records of the six report pages (R180 to R187): which indices name a record, and how long each record is. -/

namespace Sys2Proof.Machine

/-! ### Lengths of fields -/

theorem length_optByte (x : Option Nat) : (optByte x).length = 2 := by cases x <;> rfl

theorem length_optSigned (x : Option Int) : (optSigned x).length = 3 := by cases x <;> rfl

theorem length_listBytes (l : List Nat) : (listBytes l).length = l.length + 1 := by simp [listBytes]

theorem length_bytes16 (n : Nat) : (bytes16 n).length = 2 := rfl

theorem length_signed16 (i : Int) : (signed16 i).length = 2 := rfl

theorem DemandRecord.length_report (r : DemandRecord) : r.report.length = 16 := by
  simp [DemandRecord.report, length_optSigned, length_bytes16, length_signed16]

theorem StateRecord.length_report (r : StateRecord) : r.report.length = 19 := by
  simp [StateRecord.report, length_optSigned, length_optByte, length_bytes16, length_signed16]

/-! ### The indices of a page -/

theorem CommRecord.item_eq_none (r : CommRecord) (n : Nat) : r.item n = none ↔ n = 0 ∨ 21 ≤ n := by
  by_cases high : 21 ≤ n
  · obtain ⟨m, rfl⟩ := Nat.exists_eq_add_of_le' high
    simp [CommRecord.item]
  · interval_cases n <;> simp [CommRecord.item]

theorem CounterId.ofIndex_eq_none (n : Nat) : CounterId.ofIndex n = none ↔ 19 ≤ n := by
  by_cases high : 19 ≤ n
  · obtain ⟨m, rfl⟩ := Nat.exists_eq_add_of_le' high
    simp [CounterId.ofIndex]
  · interval_cases n <;> simp [CounterId.ofIndex]

theorem Channel.ofIndex_eq (n : Nat) : Channel.ofIndex n = [Channel.wheelSpeed, .torqueFb, .linkVoltage, .windingTemp,
    .gridElementTemp, .gridAirTemp, .gridCurrent][n]? := by
  by_cases high : 7 ≤ n
  · obtain ⟨m, rfl⟩ := Nat.exists_eq_add_of_le' high
    simp [Channel.ofIndex]
  · interval_cases n <;> simp [Channel.ofIndex]

theorem Channel.code_of_index {n : Nat} {c : Channel} (index : Channel.ofIndex n = some c) : c.code = n + 1 := by
  unfold Channel.ofIndex at index
  split at index <;> cases index <;> rfl

section
variable (s : State)

/-- Every station but the own has an entry (R22, R185). -/
theorem State.length_peerNumbers (low : 1 ≤ s.station.number) (high : s.station.number ≤ 4) : s.peerNumbers.length = 4 := by
  unfold State.peerNumbers
  obtain eq | eq | eq | eq : s.station.number = 1 ∨ s.station.number = 2 ∨ s.station.number = 3 ∨ s.station.number = 4 := by
    omega
  all_goals rw [eq]; rfl

theorem State.identityPage_eq_nil (index : Nat) : s.identityPage index = [] ↔ 21 ≤ index := by
  unfold State.identityPage
  by_cases zero : index = 0
  · simp [zero, State.identityRecord]
  · rw [if_neg zero]
    have item := s.station.record.item_eq_none index
    cases eq : s.station.record.item index with
    | none => simpa [eq, zero] using item
    | some v => simpa [eq, zero] using item

theorem State.countersPage_eq_nil (index : Nat) : s.countersPage index = [] ↔ 19 ≤ index := by
  unfold State.countersPage
  have named := CounterId.ofIndex_eq_none index
  cases eq : CounterId.ofIndex index with
  | none => simpa [eq] using named
  | some c => simpa [eq, bytes16] using named

theorem State.stackPage_eq_nil (index : Nat) : s.stackPage index = [] ↔ s.prot.stack.length < index := by
  unfold State.stackPage
  cases eq : s.prot.stack[index]? with
  | none =>
    have beyond := List.getElem?_eq_none_iff.1 eq
    by_cases last : index = s.prot.stack.length
    · simp [last, Protection.waitingRecord]
    · simp [last]
      omega
  | some x =>
    have within := (List.getElem?_eq_some_iff.1 eq).1
    simp [Context.report]
    omega

theorem State.peersPage_eq_nil (low : 1 ≤ s.station.number) (high : s.station.number ≤ 4) (index : Nat) :
    s.peersPage index = [] ↔ 4 ≤ index := by
  unfold State.peersPage
  rw [← s.length_peerNumbers low high, ← List.getElem?_eq_none_iff]
  cases s.peerNumbers[index]? <;> simp [PeerEntry.report]

theorem State.channelsPage_eq_nil (index : Nat) : s.channelsPage index = [] ↔ 7 ≤ index := by
  have named := Channel.ofIndex_eq index
  unfold State.channelsPage
  cases eq : Channel.ofIndex index with
  | none => simpa [eq, eq_comm] using named
  | some c =>
    rw [eq] at named
    have within := (List.getElem?_eq_some_iff.1 named.symm).1
    simpa using within

theorem State.gridPage_eq_nil (index : Nat) : s.gridPage index = [] ↔ 1 ≤ index := by
  unfold State.gridPage
  by_cases zero : index = 0
  · simp [zero]
  · simp [zero]
    omega

theorem byte_status (x : Option Judgement) : byte (statusCode x) = (match x with
    | none => 0
    | some .good => 1
    | some .bad => 2) := by
  rcases x with _ | _ | _ <;> rfl

theorem faultPlace_eq (c : Channel) (order : List Channel) :
    faultPlace c order = if c ∈ order then order.idxOf c + 1 else 0 := by
  simp [faultPlace]

theorem State.byte_side : byte s.side.code = if s.station.number % 2 = 1 then 1 else 2 := by
  unfold State.side
  split <;> rfl

/-! ### Every record fits a REPORT -/

theorem PeerEntry.length_report (e : PeerEntry) (number : Nat) : (e.report number).length ≤ 31 := by
  unfold PeerEntry.report
  cases e.contents <;>
    simp [length_optByte, length_bytes16, DemandRecord.length_report, StateRecord.length_report]

theorem Context.length_report {x : Context} (few : x.channels.length ≤ 7) : x.report.length ≤ 31 := by
  simp [Context.report, length_listBytes, length_bytes16, length_signed16]
  omega

theorem length_le_of_nodup {α : Type} [DecidableEq α] {l all : List α} (every : ∀ x, x ∈ all) (nodup : l.Nodup) :
    l.length ≤ all.length :=
  (nodup.subperm fun x _ => every x).length_le

/-- A set of classes has at most 8 members, one of causes at most 3. -/
theorem Protection.length_waitingRecord {p : Protection} (apart : p.Apart) (causes : p.causes.Nodup) :
    p.waitingRecord.length ≤ 31 := by
  have pending := length_le_of_nodup (all := [.stop, .gridHot, .windingHot, .slipPersist, .payloadOver, .peerLoss,
    .sensorFault, .base]) (fun c => by cases c <;> decide) apart.pending_nodup
  have deferred := length_le_of_nodup (all := [.stop, .gridHot, .windingHot, .slipPersist, .payloadOver, .peerLoss,
    .sensorFault, .base]) (fun c => by cases c <;> decide) apart.deferred_nodup
  have few := length_le_of_nodup (all := [.overcurrent, .linkHard, .gridOpen]) (fun c => by cases c <;> decide) causes
  simp only [List.length_cons, List.length_nil] at pending deferred few
  simp [Protection.waitingRecord, length_listBytes, length_optByte]
  omega

theorem State.length_pageRecord (inv : s.StackInv) (causes : s.prot.causes.Nodup)
    (few : ∀ x ∈ s.prot.stack, x.channels.length ≤ 7) (page : Page) (index : Nat) : (s.pageRecord page index).length ≤ 31 := by
  cases page with
  | identity =>
    show (s.identityPage index).length ≤ 31
    unfold State.identityPage
    split
    · simp [State.identityRecord, length_bytes16]
    · split <;> simp [length_bytes16]
  | counters =>
    show (s.countersPage index).length ≤ 31
    unfold State.countersPage
    split <;> simp [length_bytes16]
  | stack =>
    show (s.stackPage index).length ≤ 31
    unfold State.stackPage
    split
    next x eq => exact Context.length_report (few x (List.mem_of_getElem? eq))
    · split
      · exact Protection.length_waitingRecord (State.stackInv_iff.1 inv).1 causes
      · simp
  | peers =>
    show (s.peersPage index).length ≤ 31
    unfold State.peersPage
    split
    · exact PeerEntry.length_report _ _
    · simp
  | channels =>
    show (s.channelsPage index).length ≤ 31
    unfold State.channelsPage
    split <;> simp [length_signed16, length_optSigned]
  | grid =>
    show (s.gridPage index).length ≤ 31
    unfold State.gridPage
    split <;> simp [length_signed16, length_optSigned, length_bytes16]

end

end Sys2Proof.Machine

open Sys2Proof Sys2Proof.Machine

/-- Settles O30. -/
theorem reportRecordsFit : Obligations.ReportRecordsFit := by
  intro s index low high latch inv few
  dsimp only
  refine ⟨fun page => s.length_pageRecord inv latch.2.2 few page index, s.identityPage_eq_nil index,
    s.countersPage_eq_nil index, s.stackPage_eq_nil index, s.peersPage_eq_nil low high index, s.channelsPage_eq_nil index,
    s.gridPage_eq_nil index, ?_, ?_, ?_, ?_, ?_, ?_, ?_, ?_⟩
  · show s.identityRecord = _
    rw [State.identityRecord, s.byte_side]
    rfl
  · intro v item
    have named : index ≠ 0 := fun zero => by simp [zero, CommRecord.item] at item
    show s.identityPage index = _
    rw [State.identityPage, if_neg named, item]
  · intro c named
    show s.countersPage index = _
    rw [State.countersPage, named]
  · intro x here
    show s.stackPage index = _
    rw [State.stackPage, here]
    rfl
  · show s.stackPage s.prot.stack.length = _
    rw [State.stackPage, List.getElem?_eq_none le_rfl]
    exact if_pos rfl
  · intro i named
    show s.peersPage index = _
    rw [State.peersPage, State.peerNumbers, named]
    dsimp only
    cases contents : (s.peers.entries.get i).contents <;> simp only [PeerEntry.report, contents] <;> rfl
  · intro c named
    rw [← Channel.ofIndex_eq] at named
    show s.channelsPage index = _
    rw [State.channelsPage, named]
    dsimp only
    rw [Channel.code_of_index named, byte_status, faultPlace_eq]
    rfl
  · show s.gridPage 0 = _
    rfl

end

section
/-! SUPPORT. The check code (R3): its division is linear over exclusive or, so equal remainders of unequal bytes would be a
byte, not all zero, that divides to nothing. -/

namespace Sys2Proof.Machine

theorem crcBit_eq (r : Word) (x : Bool) : crcBit r x = r <<< 1 ^^^ (if r.msb ^^ x then 0x1021#16 else 0) := by
  unfold crcBit
  cases r.msb <;> cases x <;> simp

theorem crcBit_xor (r r' : Word) (x x' : Bool) : crcBit (r ^^^ r') (x ^^ x') = crcBit r x ^^^ crcBit r' x' := by
  have fed (p q : Bool) : (if p ^^ q then 0x1021#16 else 0) = (if p then 0x1021#16 else 0) ^^^ (if q then 0x1021#16 else 0) := by
    cases p <;> cases q <;> simp
  have bits : ((r.msb ^^ r'.msb) ^^ (x ^^ x')) = ((r.msb ^^ x) ^^ (r'.msb ^^ x')) := by
    rw [Bool.xor_assoc, Bool.xor_assoc, Bool.xor_left_comm x]
  rw [crcBit_eq, crcBit_eq, crcBit_eq, BitVec.shiftLeft_xor_distrib, BitVec.msb_xor, bits, fed]
  ac_rfl

theorem crcByte_xor (r r' : Word) (b b' : Byte) : crcByte (r ^^^ r') (b ^^^ b') = crcByte r b ^^^ crcByte r' b' := by
  simp only [crcByte, BitVec.getLsbD_xor, crcBit_xor]

/-- A bit of the division loses nothing of the remainder: the lowest bit of the result is the one that was shifted out. -/
theorem crcBit_eq_zero {r : Word} (zero : crcBit r false = 0) : r = 0 := by
  rw [crcBit_eq, Bool.xor_false] at zero
  have low := congrArg (fun w : Word => w.getLsbD 0) zero
  cases high : r.msb
  · rw [high] at zero
    have shifted : r <<< 1 = 0 := by simpa using zero
    rw [BitVec.msb_eq_false_iff_two_mul_lt] at high
    have value := congrArg BitVec.toNat shifted
    simp only [BitVec.toNat_shiftLeft, Nat.shiftLeft_eq] at value
    apply BitVec.eq_of_toNat_eq
    simp at value ⊢
    omega
  · simp [high] at low

theorem crcByte_eq_zero {r : Word} (zero : crcByte r 0 = 0) : r = 0 := by
  have bits (i : Nat) : (0 : Byte).getLsbD i = false := BitVec.getLsbD_zero
  simp only [crcByte, bits] at zero
  exact crcBit_eq_zero (crcBit_eq_zero (crcBit_eq_zero (crcBit_eq_zero (crcBit_eq_zero (crcBit_eq_zero
    (crcBit_eq_zero (crcBit_eq_zero zero)))))))

/-- No byte but 0 divides to nothing. -/
theorem crcByte_zero_injective : ∀ b : Byte, crcByte 0 b = 0 → b = 0 := by
  decide +kernel

theorem crcByte_left_injective {r r' : Word} {b : Byte} (same : crcByte r b = crcByte r' b) : r = r' := by
  have difference := crcByte_xor r r' b b
  rw [same, BitVec.xor_self, BitVec.xor_self] at difference
  exact BitVec.xor_eq_zero_iff.1 (crcByte_eq_zero difference)

theorem crcByte_right_injective {r : Word} {b b' : Byte} (same : crcByte r b = crcByte r b') : b = b' := by
  have difference := crcByte_xor r r b b'
  rw [same, BitVec.xor_self, BitVec.xor_self] at difference
  exact BitVec.xor_eq_zero_iff.1 (crcByte_zero_injective _ difference)

theorem crcBytes_left_injective {r r' : Word} {l : List Byte} (same : l.foldl crcByte r = l.foldl crcByte r') : r = r' := by
  induction l generalizing r r' with
  | nil => exact same
  | cons b rest ih => exact crcByte_left_injective (ih same)

end Sys2Proof.Machine

open Sys2Proof Sys2Proof.Machine

/-- Settles O15: the division agrees up to the byte, differs after it, and loses no difference afterwards. -/
theorem oneByteDifferenceShows : Obligations.OneByteDifferenceShows := by
  intro bytes i b within other same
  have split : bytes = bytes.take i ++ bytes[i] :: bytes.drop (i + 1) := by simp
  have replaced : bytes.set i b = bytes.take i ++ b :: bytes.drop (i + 1) := List.set_eq_take_append_cons_drop.trans (if_pos within)
  unfold crc at same
  rw [replaced] at same
  conv at same => rhs; rw [split]
  simp only [List.foldl_append, List.foldl_cons] at same
  have equal := crcByte_right_injective (crcBytes_left_injective same)
  exact other (by rw [List.getElem?_eq_getElem within, equal])

end

section
/-! SUPPORT. The form examination (R17, step 3): the reading of each body has a result exactly where no item of the list
applies. -/

namespace Sys2Proof.Machine

/-! ### Codes -/

theorem StationState.ofCode_isSome (n : Nat) : (StationState.ofCode n).isSome = true ↔ n ≤ 7 := by
  by_cases high : 8 ≤ n
  · obtain ⟨m, rfl⟩ := Nat.exists_eq_add_of_le' high
    simp [StationState.ofCode]
  · interval_cases n <;> simp [StationState.ofCode]

theorem Mode.ofCode_isSome (n : Nat) : (Mode.ofCode n).isSome = true ↔ n ≤ 3 := by
  by_cases high : 4 ≤ n
  · obtain ⟨m, rfl⟩ := Nat.exists_eq_add_of_le' high
    simp [Mode.ofCode]
  · interval_cases n <;> simp [Mode.ofCode]

theorem SlipClass.ofCode_isSome (n : Nat) : (SlipClass.ofCode n).isSome = true ↔ n ≤ 3 := by
  by_cases high : 4 ≤ n
  · obtain ⟨m, rfl⟩ := Nat.exists_eq_add_of_le' high
    simp [SlipClass.ofCode]
  · interval_cases n <;> simp [SlipClass.ofCode]

theorem Direction.ofCode_isSome (n : Nat) : (Direction.ofCode n).isSome = true ↔ 1 ≤ n ∧ n ≤ 3 := by
  by_cases high : 4 ≤ n
  · obtain ⟨m, rfl⟩ := Nat.exists_eq_add_of_le' high
    simp [Direction.ofCode]
  · interval_cases n <;> simp [Direction.ofCode]

theorem TripCause.ofCode_isSome (n : Nat) : (TripCause.ofCode n).isSome = true ↔ 1 ≤ n ∧ n ≤ 3 := by
  by_cases high : 4 ≤ n
  · obtain ⟨m, rfl⟩ := Nat.exists_eq_add_of_le' high
    simp [TripCause.ofCode]
  · interval_cases n <;> simp [TripCause.ofCode]

theorem OrderKind.ofCode_isSome (n : Nat) : (OrderKind.ofCode n).isSome = true ↔ 1 ≤ n ∧ n ≤ 6 := by
  by_cases high : 7 ≤ n
  · obtain ⟨m, rfl⟩ := Nat.exists_eq_add_of_le' high
    simp [OrderKind.ofCode]
  · interval_cases n <;> simp [OrderKind.ofCode]

theorem Page.ofCode_isSome (n : Nat) : (Page.ofCode n).isSome = true ↔ 1 ≤ n ∧ n ≤ 6 := by
  by_cases high : 7 ≤ n
  · obtain ⟨m, rfl⟩ := Nat.exists_eq_add_of_le' high
    simp [Page.ofCode]
  · interval_cases n <;> simp [Page.ofCode]

theorem StationId.ofCode_isSome (n : Nat) : (StationId.ofCode n).isSome = true ↔ n ≤ 4 := by
  by_cases high : 5 ≤ n
  · obtain ⟨m, rfl⟩ := Nat.exists_eq_add_of_le' high
    simp [StationId.ofCode]
  · interval_cases n <;> simp [StationId.ofCode]

theorem readYesNo_isSome (n : Nat) : (readYesNo n).isSome = true ↔ n ≤ 1 := by
  by_cases high : 2 ≤ n
  · obtain ⟨m, rfl⟩ := Nat.exists_eq_add_of_le' high
    simp [readYesNo]
  · interval_cases n <;> simp [readYesNo]

theorem flagged_isSome (flag : Bool) (v : Int) : (flagged flag v).isSome = true ↔ (flag = false → v = 0) := by
  cases flag <;> simp [flagged]

theorem flaggedCause_isSome (flag : Bool) (n : Nat) : (flaggedCause flag n).isSome = true ↔
    (flag = false → n = 0) ∧ (flag = true → 1 ≤ n ∧ n ≤ 3) := by
  have coded := TripCause.ofCode_isSome n
  cases flag <;> simp [flaggedCause, coded]

theorem nat16_eq_zero (hi lo : Byte) : nat16 hi lo = 0 ↔ hi.toNat = 0 ∧ lo.toNat = 0 := by
  unfold nat16
  omega

/-! ### Bodies -/

theorem FormRight.shape {kind source presence : Nat} {l : List Nat} (right : FormRight kind source presence l) :
    (kind = 1 ∧ l.length = 16) ∨ (kind = 2 ∧ l.length = 14) ∨ (kind = 3 ∧ 2 ≤ l.length) ∨ (kind = 4 ∧ l.length = 4) ∨
    (kind = 5 ∧ l.length = 4) ∨ (kind = 6 ∧ l.length = 4) ∨ (kind = 7 ∧ 3 ≤ l.length) := by
  obtain ⟨-, form⟩ := right
  split at form <;> simp_all

theorem int16_eq_zero (hi lo : Byte) : int16 hi lo = 0 ↔ hi.toNat = 0 ∧ lo.toNat = 0 := by
  have high := hi.isLt
  have low := lo.isLt
  unfold int16 nat16
  split <;> omega

/-- A reading in steps has a result if the first step has one and, whatever it is, the rest has. -/
theorem isSome_bind_iff {α β : Type} {x : Option α} {f : α → Option β} {P : Prop} (rest : ∀ a, (f a).isSome = true ↔ P) :
    (x >>= f).isSome = true ↔ x.isSome = true ∧ P := by
  cases x with
  | none => simp
  | some a => simp [rest]

theorem isSome_guard {α : Type} (P : Prop) [Decidable P] (a : α) : (if P then some a else none).isSome = true ↔ P := by
  split <;> simp [*]

theorem parseState_of_length {presence : Nat} {body : List Byte} (length : body.length ≠ 16) : parseState presence body = none := by
  unfold parseState
  split
  · exact (length rfl).elim
  · rfl

theorem parseState_right (source presence : Nat) (body : List Byte) :
    FormRight 1 source presence (body.map BitVec.toNat) ↔ source ≤ 4 ∧ (parseState presence body).isSome = true := by
  by_cases length : body.length = 16
  · match body, length with
    | [st, md, tl, sc, w1, w0, c1, c0, t1, t0, o1, o0, g1, g0, br, tc], _ =>
      simp only [FormRight, List.map_cons, List.map_nil, parseState]
      refine and_congr_right' (Iff.symm ?_)
      refine (isSome_bind_iff fun _ => isSome_bind_iff fun _ => isSome_bind_iff fun _ => isSome_bind_iff fun _ =>
        isSome_bind_iff fun _ => isSome_bind_iff fun _ => isSome_bind_iff fun _ => isSome_guard _ _).trans ?_
      rw [StationState.ofCode_isSome, Mode.ofCode_isSome, SlipClass.ofCode_isSome, flagged_isSome, flagged_isSome,
        readYesNo_isSome, flaggedCause_isSome, int16_eq_zero, int16_eq_zero]
      simp only [decide_eq_false_iff_not, decide_eq_true_eq, Nat.mod_two_not_eq_one, Nat.not_le]
      tauto
  · rw [parseState_of_length length]
    exact ⟨fun right => by simpa [length] using right.shape, fun ⟨_, has⟩ => by simp at has⟩

theorem parseDemand_of_length {presence : Nat} {body : List Byte} (length : body.length ≠ 14) :
    parseDemand presence body = none := by
  unfold parseDemand
  split
  · exact (length rfl).elim
  · rfl

theorem parseDemand_right (source presence : Nat) (body : List Byte) :
    FormRight 2 source presence (body.map BitVec.toNat) ↔ source ≤ 4 ∧ (parseDemand presence body).isSome = true := by
  by_cases length : body.length = 14
  · match body, length with
    | [dir, hold, p1, p0, r1, r0, s1, s0, c1, c0, l1, l0, f1, f0], _ =>
      simp only [FormRight, List.map_cons, List.map_nil, parseDemand]
      refine and_congr_right' (Iff.symm ?_)
      refine (isSome_bind_iff fun _ => isSome_bind_iff fun _ => isSome_bind_iff fun _ => isSome_bind_iff fun _ =>
        isSome_guard _ _).trans ?_
      rw [Direction.ofCode_isSome, readYesNo_isSome, flagged_isSome, flagged_isSome, int16_eq_zero, Int.natCast_eq_zero,
        nat16_eq_zero]
      simp only [decide_eq_false_iff_not, Nat.mod_two_not_eq_one, Nat.not_le]
      tauto
  · rw [parseDemand_of_length length]
    exact ⟨fun right => by simpa [length] using right.shape, fun ⟨_, has⟩ => by simp at has⟩

theorem parseOrder_of_length {body : List Byte} (length : body.length ≠ 4) : parseOrder body = none := by
  unfold parseOrder
  split
  · exact (length rfl).elim
  · rfl

theorem parseConfig_of_length {body : List Byte} (length : body.length ≠ 4) : parseConfig body = none := by
  unfold parseConfig
  split
  · exact (length rfl).elim
  · rfl

theorem parseQuery_of_length {body : List Byte} (length : body.length ≠ 4) : parseQuery body = none := by
  unfold parseQuery
  split
  · exact (length rfl).elim
  · rfl

theorem isSome_noPresence {α : Type} (presence : Nat) (x : Option α) :
    (if presence = 0 then x else none).isSome = true ↔ presence = 0 ∧ x.isSome = true := by
  split <;> simp [*]

theorem legalArgument_iff {code : Nat} {k : OrderKind} (named : OrderKind.ofCode code = some k) (a : Nat) :
    k.legalArgument a = true ↔ (code = 4 → a ≤ 7) := by
  unfold OrderKind.ofCode at named
  split at named <;> cases named <;> simp [OrderKind.legalArgument]

theorem parseOrder_right (source presence : Nat) (body : List Byte) :
    FormRight 4 source presence (body.map BitVec.toNat) ↔
      source ≤ 4 ∧ (if presence = 0 then parseOrder body else none).isSome = true := by
  rw [isSome_noPresence]
  by_cases length : body.length = 4
  · match body, length with
    | [kind, target, argument, fill], _ =>
      simp only [FormRight, List.map_cons, List.map_nil, parseOrder]
      refine and_congr_right' (and_congr_right' (Iff.symm ?_))
      cases named : OrderKind.ofCode kind.toNat with
      | none =>
        have unnamed := OrderKind.ofCode_isSome kind.toNat
        simp only [named, Option.isSome_none, Bool.false_eq_true, false_iff] at unnamed
        simp
        tauto
      | some k =>
        have known := (OrderKind.ofCode_isSome kind.toNat).1 (by rw [named]; rfl)
        have argumentRight := legalArgument_iff named argument.toNat
        simp [argumentRight, known, stationTarget, targetAll]
  · rw [parseOrder_of_length length]
    exact ⟨fun right => by simpa [length] using right.shape, fun ⟨_, _, has⟩ => by simp at has⟩

theorem parseConfig_right (source presence : Nat) (body : List Byte) :
    FormRight 5 source presence (body.map BitVec.toNat) ↔
      source ≤ 4 ∧ (if presence = 0 then parseConfig body else none).isSome = true := by
  rw [isSome_noPresence]
  by_cases length : body.length = 4
  · match body, length with
    | [target, item, v1, v0], _ =>
      simp only [FormRight, List.map_cons, List.map_nil, parseConfig, isSome_guard, stationTarget, decide_eq_true_eq]
  · rw [parseConfig_of_length length]
    exact ⟨fun right => by simpa [length] using right.shape, fun ⟨_, _, has⟩ => by simp at has⟩

theorem parseQuery_right (source presence : Nat) (body : List Byte) :
    FormRight 6 source presence (body.map BitVec.toNat) ↔
      source ≤ 4 ∧ (if presence = 0 then parseQuery body else none).isSome = true := by
  rw [isSome_noPresence]
  by_cases length : body.length = 4
  · match body, length with
    | [target, page, index, fill], _ =>
      simp only [FormRight, List.map_cons, List.map_nil, parseQuery]
      refine and_congr_right' (and_congr_right' (Iff.symm ((isSome_bind_iff fun _ => isSome_guard _ _).trans ?_)))
      rw [Page.ofCode_isSome]
      simp only [stationTarget, decide_eq_true_eq]
      tauto
  · rw [parseQuery_of_length length]
    exact ⟨fun right => by simpa [length] using right.shape, fun ⟨_, _, has⟩ => by simp at has⟩

theorem parseReport_right (source presence : Nat) (body : List Byte) :
    FormRight 7 source presence (body.map BitVec.toNat) ↔
      source ≤ 4 ∧ (if presence = 0 then parseReport body else none).isSome = true := by
  rw [isSome_noPresence]
  match body with
  | [] => exact ⟨fun right => by simpa using right.shape, fun ⟨_, _, has⟩ => by simp [parseReport] at has⟩
  | [_] => exact ⟨fun right => by simpa using right.shape, fun ⟨_, _, has⟩ => by simp [parseReport] at has⟩
  | [_, _] => exact ⟨fun right => by simpa using right.shape, fun ⟨_, _, has⟩ => by simp [parseReport] at has⟩
  | page :: index :: count :: rest =>
    simp only [FormRight, List.map_cons, parseReport]
    refine and_congr_right' (and_congr_right' (Iff.symm ((isSome_bind_iff fun _ => isSome_guard _ _).trans ?_)))
    rw [Page.ofCode_isSome]
    have code : (3 + count.toNat - 3) / 2 = count.toNat / 2 := by omega
    simp only [lengthCode, code, List.length_map, Bool.and_eq_true, decide_eq_true_eq]
    tauto

theorem AlertKind.ofCode_isSome (n : Nat) : (AlertKind.ofCode n).isSome = true ↔ 1 ≤ n ∧ n ≤ 9 := by
  by_cases high : 10 ≤ n
  · obtain ⟨m, rfl⟩ := Nat.exists_eq_add_of_le' high
    simp [AlertKind.ofCode]
  · interval_cases n <;> simp [AlertKind.ofCode]

theorem legalCount_iff {code : Nat} {k : AlertKind} (named : AlertKind.ofCode code = some k) (count : Nat) :
    k.legalCount count = true ↔ (code = 1 → 1 ≤ count ∧ count ≤ 8) ∧ (code = 2 ∨ code = 3 ∨ code = 7 → count = 1) ∧
      (code = 4 ∨ code = 5 ∨ code = 6 ∨ code = 8 ∨ code = 9 → count = 0) := by
  unfold AlertKind.ofCode at named
  split at named <;> cases named <;> simp [AlertKind.legalCount]

theorem legalArgs_iff {code : Nat} {k : AlertKind} (named : AlertKind.ofCode code = some k) (args : List Nat) :
    k.legalArgs args = true ↔ ArgumentsRight code args := by
  unfold AlertKind.ofCode at named
  split at named <;> cases named <;> simp [AlertKind.legalArgs, ArgumentsRight]

theorem parseAlert_right (source presence : Nat) (body : List Byte) :
    FormRight 3 source presence (body.map BitVec.toNat) ↔
      source ≤ 4 ∧ (if presence = 0 then parseAlert body else none).isSome = true := by
  rw [isSome_noPresence]
  match body with
  | [] => exact ⟨fun right => by simpa using right.shape, fun ⟨_, _, has⟩ => by simp [parseAlert] at has⟩
  | [_] => exact ⟨fun right => by simpa using right.shape, fun ⟨_, _, has⟩ => by simp [parseAlert] at has⟩
  | kind :: count :: rest =>
    simp only [FormRight, List.map_cons, parseAlert]
    refine and_congr_right' (and_congr_right' (Iff.symm ?_))
    cases named : AlertKind.ofCode kind.toNat with
    | none =>
      have unnamed := AlertKind.ofCode_isSome kind.toNat
      simp only [named, Option.isSome_none, Bool.false_eq_true, false_iff] at unnamed
      simp only [Option.bind_eq_bind, Option.bind_none, Option.isSome_none, Bool.false_eq_true, false_iff]
      tauto
    | some k =>
      have known := (AlertKind.ofCode_isSome kind.toNat).1 (by rw [named]; rfl)
      have code : (2 + count.toNat - 3) / 2 = (count.toNat - 1) / 2 := by omega
      simp only [Option.bind_eq_bind, Option.bind_some, isSome_guard, Bool.and_eq_true, decide_eq_true_eq,
        legalCount_iff named, legalArgs_iff named, lengthCode, code, List.length_map, List.map_take]
      tauto

/-! ### Whole posts -/

theorem parseBody_right {code : Nat} {k : PostKind} (named : PostKind.ofCode code = some k) (source presence : Nat)
    (body : List Byte) : FormRight code source presence (body.map BitVec.toNat) ↔
      source ≤ 4 ∧ (parseBody k presence body).isSome = true := by
  unfold PostKind.ofCode at named
  split at named <;> cases named
  · exact parseState_right source presence body
  · exact parseDemand_right source presence body
  · exact parseAlert_right source presence body
  · exact parseOrder_right source presence body
  · exact parseConfig_right source presence body
  · exact parseQuery_right source presence body
  · exact parseReport_right source presence body

theorem parsePost_right (kind source seqLen presence : Byte) (body : List Byte) :
    parsePost (kind :: source :: seqLen :: presence :: body) ≠ none ↔
      FormRight kind.toNat source.toNat presence.toNat (body.map BitVec.toNat) := by
  rw [Option.ne_none_iff_isSome]
  simp only [parsePost]
  cases named : PostKind.ofCode kind.toNat with
  | none =>
    refine ⟨fun has => by simp at has, fun right => ?_⟩
    have known : 1 ≤ kind.toNat ∧ kind.toNat ≤ 7 := by
      have shape := right.shape
      omega
    obtain ⟨low, high⟩ := known
    generalize kind.toNat = code at *
    interval_cases code <;> simp [PostKind.ofCode] at named
  | some k =>
    rw [Option.bind_eq_bind, Option.bind_some, parseBody_right named]
    refine (isSome_bind_iff (P := (parseBody k presence.toNat body).isSome = true) fun src => ?_).trans ?_
    · cases parseBody k presence.toNat body <;> simp
    · simp [StationId.ofCode_isSome]

/-! ### The reading of levels (R16) -/

theorem byteOfLevels_bits (b : Byte) : byteOfLevels [b.getLsbD 7, b.getLsbD 6, b.getLsbD 5, b.getLsbD 4, b.getLsbD 3,
    b.getLsbD 2, b.getLsbD 1, b.getLsbD 0] = b := by
  revert b
  decide +kernel

/-- One byte read back to back (R16). -/
theorem readBytes_byte (got : List Byte) (rest : List Bool) (b : Byte) (space : Bool) :
    readBytes got (true :: [b.getLsbD 7, b.getLsbD 6, b.getLsbD 5, b.getLsbD 4, b.getLsbD 3, b.getLsbD 2, b.getLsbD 1,
      b.getLsbD 0] ++ space :: rest) =
      if space then some (.framing (got ++ [b]), rest)
      else if postLength (got ++ [b]) = some (got ++ [b]).length then some (.whole (got ++ [b]), rest)
      else readBytes (got ++ [b]) rest := by
  simp only [List.cons_append, List.nil_append]
  rw [readBytes, byteOfLevels_bits]

/-- A whole post is examined by its last two bytes against the others, then by its form (R17). -/
theorem examine_whole {l c : List Byte} (length : c.length = 2) : examine (.whole (l ++ c)) =
    if crcBytes l = c then (match parsePost l with
      | some p => .good p
      | none => .form (l ++ c))
    else .check (l ++ c) := by
  have size : (l ++ c).length - 2 = l.length := by simp [length]
  simp only [examine, examineWhole, size, List.take_left, List.drop_left]
  by_cases same : crcBytes l = c
  · rw [if_pos same, if_neg (by simp [same])] <;> rfl
  · rw [if_neg same, if_pos (by simp [same])]

theorem State.joinRx_room {s : State} (room : s.bus.rx.length < 8) (e : RxEntry) : s.joinRx e = { s with
    bus := { s.bus with rx := s.bus.rx ++ [e] }
    counters := if e.tagged then s.counters else s.counters.bump .receivedGood } := by
  unfold State.joinRx
  rw [if_pos room]
  dsimp only
  split <;> rfl

theorem State.joinRx_full {s : State} (full : 8 ≤ s.bus.rx.length) (e : RxEntry) : s.joinRx e = s.bump .overruns :=
  if_neg (Nat.not_lt.2 full)

end Sys2Proof.Machine

open Sys2Proof Sys2Proof.Machine

/-- Settles O16. -/
theorem arrivalJoinsTheQueue : Obligations.ArrivalJoinsTheQueue := by
  refine ⟨fun levels r s live idle receiving read => ?_, fun got rest b => ?_, fun l => ⟨rfl, rfl⟩,
    fun l c length => ?_, parsePost_right⟩
  · have run : exec (.postArrival levels) s =
        .next ((s.endReception.joinRx (examine r)).afterPost levels r.isWhole) := by
      simp [exec, execPostArrival, live, idle, receiving, read]
    refine ⟨fun room => run.trans ?_, fun full => run.trans ?_⟩
    · rw [State.joinRx_room (s := s.endReception) room]
      rfl
    · rw [State.joinRx_full (s := s.endReception) full]
      rfl
  · exact ⟨rfl, (readBytes_byte got rest b true).trans (if_pos rfl), (readBytes_byte got rest b false).trans (if_neg nofun)⟩
  · rw [examine_whole length]
    exact ⟨fun other => if_neg other, fun same none => by rw [if_pos same, none],
      fun p same some => by rw [if_pos same, some]⟩

end

section
/-! SUPPORT. The round trip of a post: the bytes in which its fields stand are read back as those fields (R2 to R8, R16,
R17). -/

namespace Sys2Proof.Machine

/-! ### Fields and the bytes that hold them (R2) -/

theorem byte_toNat {n : Nat} (fits : n < 256) : (byte n).toNat = n :=
  (BitVec.toNat_ofNat n 8).trans (Nat.mod_eq_of_lt fits)

theorem nat16_bytes16 {n : Nat} (fits : n < 65536) : nat16 (BitVec.ofNat 8 (n / 256)) (BitVec.ofNat 8 n) = n := by
  simp only [nat16, BitVec.toNat_ofNat]
  omega

theorem int16_signed16 {i : Int} (fits : FitsSigned i) :
    int16 (BitVec.ofNat 8 ((i % 65536).toNat / 256)) (BitVec.ofNat 8 (i % 65536).toNat) = i := by
  obtain ⟨low, high⟩ := fits
  unfold int16
  rw [nat16_bytes16 (by omega)]
  split <;> omega

theorem ofCode_stationId (s : StationId) : StationId.ofCode (byte s.num).toNat = some s := by cases s <;> rfl

theorem ofCode_postKind (k : PostKind) : PostKind.ofCode (byte k.code).toNat = some k := by cases k <;> rfl

theorem ofCode_stationState (s : StationState) : StationState.ofCode (byte s.code).toNat = some s := by cases s <;> rfl

theorem ofCode_mode (m : Mode) : Mode.ofCode (byte m.code).toNat = some m := by cases m <;> rfl

theorem ofCode_slipClass (c : SlipClass) : SlipClass.ofCode (byte c.code).toNat = some c := by cases c <;> rfl

theorem ofCode_direction (d : Direction) : Direction.ofCode (byte d.code).toNat = some d := by cases d <;> rfl

theorem ofCode_alertKind (k : AlertKind) : AlertKind.ofCode (byte k.code).toNat = some k := by cases k <;> rfl

theorem ofCode_orderKind (k : OrderKind) : OrderKind.ofCode (byte k.code).toNat = some k := by cases k <;> rfl

theorem ofCode_page (p : Page) : Page.ofCode (byte p.code).toNat = some p := by cases p <;> rfl

theorem readYesNo_yesNo (b : Bool) : readYesNo (byte (yesNo b)).toNat = some b := by cases b <;> rfl

theorem flaggedCause_fieldCode (c : Option TripCause) :
    flaggedCause c.isSome (byte (TripCause.fieldCode c)).toNat = some c := by
  rcases c with - | c
  · rfl
  · cases c <;> rfl

theorem flagged_getD (x : Option Int) : flagged x.isSome (x.getD 0) = some x := by cases x <;> rfl

theorem flagged_getD_nat (x : Option Nat) : flagged x.isSome (x.getD 0 : Nat) = some (x.map Int.ofNat) := by
  cases x <;> rfl

theorem map_toNat_ofNat (x : Option Nat) : (x.map Int.ofNat).map Int.toNat = x := by cases x <;> rfl

/-! ### Lengths (R2) -/

theorem Body.length_bytes (b : Body) : b.bytes.length = 2 * b.lengthCode + 4 := by
  simp only [Body.bytes, Body.lengthCode, Machine.lengthCode, List.length_append, List.length_replicate]
  omega

theorem length_le_of_legalCount {k : AlertKind} {count : Nat} (legal : k.legalCount count = true) : count ≤ 8 := by
  cases k <;> simp only [AlertKind.legalCount, decide_eq_true_eq] at legal <;> omega

theorem Body.lengthCode_le_of_sendable {b : Body} (sendable : b.Sendable) : b.lengthCode ≤ 15 := by
  have short : b.content.length ≤ 34 := by
    cases b with
    | state | demand | order | config | query => simp [Body.content, length_bytes16, length_signed16]
    | alert kind args =>
      obtain ⟨count, -, -⟩ := sendable
      have few := length_le_of_legalCount count
      simp only [Body.content, List.length_append, List.length_cons, List.length_nil, List.length_map]
      omega
    | report page index data =>
      obtain ⟨-, few⟩ := sendable
      simp only [Body.content, List.length_append, List.length_cons, List.length_nil]
      omega
  unfold Body.lengthCode Machine.lengthCode
  omega

theorem length_crcBytes (l : List Byte) : (crcBytes l).length = 2 := rfl

theorem length_wire (source seq : Nat) (b : Body) : (wire source seq b).length = 10 + 2 * b.lengthCode := by
  simp only [wire, unchecked, List.length_append, List.length_cons, List.length_nil, b.length_bytes, length_crcBytes]
  omega

theorem seqLen_toNat {seq code : Nat} (seqFits : seq < 16) (codeFits : code ≤ 15) :
    (byte (16 * seq + code)).toNat = 16 * seq + code := byte_toNat (by omega)

theorem postLength_wire {source seq : Nat} {b : Body} (seqFits : seq < 16) (codeFits : b.lengthCode ≤ 15) :
    postLength (wire source seq b) = some (wire source seq b).length := by
  have named : postLength (wire source seq b) = some (4 + bodyLength (byte (16 * seq + b.lengthCode)) + 2) := rfl
  rw [named, length_wire, bodyLength, seqLen_toNat seqFits codeFits]
  congr 1
  omega

/-! ### The levels and their reading (R1, R16) -/

theorem length_flatMap_byteLevels (bytes : List Byte) : (bytes.flatMap byteLevels).length = 10 * bytes.length := by
  induction bytes with
  | nil => rfl
  | cons b rest ih =>
    simp only [List.flatMap_cons, List.length_append, List.length_cons, ih]
    have ten : (byteLevels b).length = 10 := rfl
    omega

theorem length_postLevels (bytes : List Byte) : (postLevels bytes).length = 16 + 10 * bytes.length := by
  rw [postLevels, List.length_append, length_flatMap_byteLevels]
  rfl

theorem postLength_append {l more : List Byte} {n : Nat} (named : postLength l = some n) :
    postLength (l ++ more) = some n := by
  unfold postLength at named
  split at named
  · exact named
  · exact absurd named nofun

/-- Bytes whose header names their number are read back from their levels, whole (R16). -/
theorem readBytes_levels {bytes : List Byte} (length : postLength bytes = some bytes.length) (rest : List Byte) :
    ∀ got, got ++ rest = bytes → rest ≠ [] → readBytes got (rest.flatMap byteLevels) = some (.whole bytes, []) := by
  induction rest with
  | nil => exact fun _ _ more => absurd rfl more
  | cons b rest ih =>
    intro got parts _
    rw [List.append_cons] at parts
    refine (readBytes_byte got (rest.flatMap byteLevels) b false).trans ?_
    rw [if_neg nofun]
    cases rest with
    | nil =>
      rw [List.append_nil] at parts
      rw [parts, if_pos length]
      rfl
    | cons b' rest =>
      rw [if_neg ?_]
      · exact ih _ parts nofun
      · intro complete
        have same := postLength_append (more := b' :: rest) complete
        rw [parts, length] at same
        have longer := congrArg List.length parts
        rw [List.length_append, List.length_cons] at longer
        have equal := Option.some.inj same
        omega

theorem receiveLevels_postLevels {bytes : List Byte} (length : postLength bytes = some bytes.length) :
    receiveLevels ((postLevels bytes).drop 14) = some (.whole bytes, []) :=
  readBytes_levels length bytes [] rfl (by rintro rfl; exact absurd length nofun)

/-! ### The bodies read back (R17) -/

/-- What the presence byte of a post with two optional fields says of each (R2). -/
theorem presence_flags (first second : Bool) (p : Nat)
    (given : p = (byte ((if first = true then 1 else 0) + (if second = true then 2 else 0))).toNat) :
    decide (p % 2 = 1) = first ∧ decide (2 ≤ p) = second ∧ p ≤ 3 := by
  subst given
  cases first <;> cases second <;> decide

/-- Content of an even number of bytes, 4 or more, needs no fill. -/
theorem Body.bytes_of_even {b : Body} {n : Nat} (even : b.content.length = 2 * n + 4) : b.bytes = b.content := by
  have noFill : 2 * ((2 * n + 4 - 3) / 2) + 4 - (2 * n + 4) = 0 := by omega
  simp only [Body.bytes, Body.lengthCode, Machine.lengthCode, even, noFill, List.replicate_zero, List.append_nil]

theorem Body.bytes_state (r : StateRecord) : (Body.state r).bytes = (Body.state r).content :=
  Body.bytes_of_even (n := 6) rfl

theorem Body.bytes_demand (r : DemandRecord) : (Body.demand r).bytes = (Body.demand r).content :=
  Body.bytes_of_even (n := 5) rfl

theorem parseState_bytes {r : StateRecord} (sendable : (Body.state r).Sendable) :
    parseState (byte (Body.state r).presence).toNat (Body.state r).bytes = some (.state r) := by
  obtain ⟨both, top, wheel, centre, torque, offer, temp⟩ := sendable
  obtain ⟨speeds, cause, known⟩ := presence_flags r.centreSpeed.isSome r.tripCause.isSome
    (byte (Body.state r).presence).toNat (by simp only [Body.presence, both, Bool.or_self])
  have wheelField : flagged r.centreSpeed.isSome (r.wheelSpeed.getD 0) = some r.wheelSpeed :=
    both ▸ flagged_getD r.wheelSpeed
  rw [Body.bytes_state]
  simp only [Body.content, signed16, bytes16, List.cons_append, List.nil_append, parseState, speeds, cause,
    ofCode_stationState, ofCode_mode, ofCode_slipClass, readYesNo_yesNo, flaggedCause_fieldCode, fieldOr0,
    int16_signed16 wheel, int16_signed16 centre, int16_signed16 torque, int16_signed16 temp, nat16_bytes16 offer,
    byte_toNat top, wheelField, flagged_getD, Option.bind_eq_bind, Option.bind_some, if_pos known]

theorem parseDemand_bytes {r : DemandRecord} (sendable : (Body.demand r).Sendable) :
    parseDemand (byte (Body.demand r).presence).toNat (Body.demand r).bytes = some (.demand r) := by
  obtain ⟨propel, retard, steer, ceiling, payload, front⟩ := sendable
  obtain ⟨load, reference, known⟩ := presence_flags r.payload.isSome r.frontRef.isSome
    (byte (Body.demand r).presence).toNat rfl
  rw [Body.bytes_demand]
  simp only [Body.content, signed16, bytes16, List.cons_append, List.nil_append, parseDemand, load, reference,
    ofCode_direction, readYesNo_yesNo, int16_signed16 steer, int16_signed16 front, nat16_bytes16 propel,
    nat16_bytes16 retard, nat16_bytes16 ceiling, nat16_bytes16 payload, fieldOr0, flagged_getD, flagged_getD_nat,
    map_toNat_ofNat, Option.bind_eq_bind, Option.bind_some, if_pos known]

theorem Body.bytes_alert (k : AlertKind) (args : List Nat) : (Body.alert k args).bytes =
    byte k.code :: byte args.length :: (args.map byte ++
      List.replicate (2 * Machine.lengthCode (2 + args.length) + 4 - (2 + args.length)) 0) := by
  have length : (Body.alert k args).content.length = 2 + args.length := by
    simp only [Body.content, List.cons_append, List.nil_append, List.length_cons, List.length_map]
    omega
  simp only [Body.bytes, Body.lengthCode, length]
  rfl

theorem Body.bytes_report (page : Page) (index : Nat) (data : List Byte) : (Body.report page index data).bytes =
    byte page.code :: byte index :: byte data.length :: (data ++
      List.replicate (2 * Machine.lengthCode (3 + data.length) + 4 - (3 + data.length)) 0) := by
  have length : (Body.report page index data).content.length = 3 + data.length := by
    simp only [Body.content, List.cons_append, List.nil_append, List.length_cons]
    omega
  simp only [Body.bytes, Body.lengthCode, length]
  rfl

theorem map_byte_toNat {l : List Nat} (fits : ∀ a ∈ l, a < 256) : (l.map byte).map BitVec.toNat = l := by
  rw [List.map_map]
  exact (List.map_congr_left fun a member => byte_toNat (fits a member)).trans (List.map_id l)

theorem parseAlert_bytes {k : AlertKind} {args : List Nat} (sendable : (Body.alert k args).Sendable) :
    parseAlert (Body.alert k args).bytes = some (.alert k args) := by
  obtain ⟨count, legal, fits⟩ := sendable
  have few : args.length ≤ 8 := length_le_of_legalCount count
  have number : (byte args.length).toNat = args.length := byte_toNat (by omega)
  have taken : ((args.map byte ++ List.replicate (2 * Machine.lengthCode (2 + args.length) + 4 - (2 + args.length)) 0).take
      args.length).map BitVec.toNat = args := by
    rw [List.take_left' (List.length_map ..), map_byte_toNat fits]
  have size : 2 + args.length ≤ 2 * Machine.lengthCode (2 + args.length) + 4 := by
    unfold lengthCode
    omega
  rw [Body.bytes_alert]
  simp only [parseAlert, ofCode_alertKind, number, taken, Option.bind_eq_bind, Option.bind_some, count, legal,
    List.length_append, List.length_map, List.length_replicate, Bool.and_self, Bool.true_and]
  exact if_pos (decide_eq_true (by omega))

theorem parseOrder_bytes {k : OrderKind} {target argument : Nat} (sendable : (Body.order k target argument).Sendable) :
    parseOrder (Body.order k target argument).bytes = some (.order k target argument) := by
  obtain ⟨named, fits, legal⟩ := sendable
  have targetFits : target < 256 := by
    simp only [stationTarget, targetAll, decide_eq_true_eq] at named
    omega
  have known : (stationTarget target || target == targetAll) = true := by simpa using named
  have bytes : (Body.order k target argument).bytes = [byte k.code, byte target, byte argument, 0] :=
    Body.bytes_of_even (n := 0) rfl
  rw [bytes]
  simp only [parseOrder, ofCode_orderKind, byte_toNat targetFits, byte_toNat fits, Option.bind_eq_bind, Option.bind_some,
    known, legal, Bool.and_self, if_true]

theorem lt_of_stationTarget {target : Nat} (named : stationTarget target = true) : target < 256 := by
  simp only [stationTarget, decide_eq_true_eq] at named
  omega

theorem parseConfig_bytes {target item value : Nat} (sendable : (Body.config target item value).Sendable) :
    parseConfig (Body.config target item value).bytes = some (.config target item value) := by
  obtain ⟨named, itemFits, valueFits⟩ := sendable
  have bytes : (Body.config target item value).bytes =
    [byte target, byte item, BitVec.ofNat 8 (value / 256), BitVec.ofNat 8 value] :=
    Body.bytes_of_even (n := 0) rfl
  rw [bytes]
  simp only [parseConfig, byte_toNat (lt_of_stationTarget named), byte_toNat itemFits, nat16_bytes16 valueFits, named,
    if_true]

theorem parseQuery_bytes {target : Nat} {page : Page} {index : Nat} (sendable : (Body.query target page index).Sendable) :
    parseQuery (Body.query target page index).bytes = some (.query target page index) := by
  obtain ⟨named, fits⟩ := sendable
  have bytes : (Body.query target page index).bytes = [byte target, byte page.code, byte index, 0] :=
    Body.bytes_of_even (n := 0) rfl
  rw [bytes]
  simp only [parseQuery, byte_toNat (lt_of_stationTarget named), byte_toNat fits, ofCode_page, named,
    Option.bind_eq_bind, Option.bind_some, if_true]

theorem parseReport_bytes {page : Page} {index : Nat} {data : List Byte} (sendable : (Body.report page index data).Sendable) :
    parseReport (Body.report page index data).bytes = some (.report page index data) := by
  obtain ⟨fits, few⟩ := sendable
  have number : (byte data.length).toNat = data.length := byte_toNat (by omega)
  have size : 3 + data.length ≤ 2 * Machine.lengthCode (3 + data.length) + 4 := by
    unfold lengthCode
    omega
  have lengths : data.length + (2 * Machine.lengthCode (3 + data.length) + 4 - (3 + data.length)) + 3 =
      2 * Machine.lengthCode (3 + data.length) + 4 := by omega
  rw [Body.bytes_report]
  simp only [parseReport, ofCode_page, number, byte_toNat fits, List.take_left, Option.bind_eq_bind, Option.bind_some,
    List.length_append, List.length_replicate, lengths, few, decide_true, Bool.and_self, if_true]

theorem parseBody_bytes {b : Body} (sendable : b.Sendable) :
    parseBody b.kind (byte b.presence).toNat b.bytes = some b := by
  cases b with
  | state => exact parseState_bytes sendable
  | demand => exact parseDemand_bytes sendable
  | alert => exact parseAlert_bytes sendable
  | order => exact parseOrder_bytes sendable
  | config => exact parseConfig_bytes sendable
  | query => exact parseQuery_bytes sendable
  | report => exact parseReport_bytes sendable

theorem parsePost_unchecked {p : Post} (seqFits : p.seq < 16) (sendable : p.body.Sendable) :
    parsePost (unchecked p.source.num p.seq p.body) = some p := by
  have code := Body.lengthCode_le_of_sendable sendable
  have seq : (16 * p.seq + p.body.lengthCode) / 16 = p.seq := by omega
  simp only [unchecked, List.cons_append, List.nil_append, parsePost, ofCode_postKind, ofCode_stationId,
    parseBody_bytes sendable, seqLen_toNat seqFits code, seq, Option.bind_eq_bind, Option.bind_some]

theorem examine_wire {p : Post} (seqFits : p.seq < 16) (sendable : p.body.Sendable) :
    examine (.whole p.wire) = .good p := by
  refine (examine_whole (length_crcBytes _)).trans ?_
  rw [if_pos rfl, parsePost_unchecked seqFits sendable]

end Sys2Proof.Machine

open Sys2Proof Sys2Proof.Machine

/-- Settles O14: the header names the number of bytes, so the reading of levels ends with the last check byte and not before,
and each kind of body is parsed back from its own bytes. -/
theorem sentPostsAreReadBack : Obligations.SentPostsAreReadBack := by
  intro p seqFits sendable
  have code := Body.lengthCode_le_of_sendable sendable
  have length : p.wire.length = 10 + 2 * p.body.lengthCode := length_wire ..
  exact ⟨by omega, by omega, length_postLevels _, receiveLevels_postLevels (postLength_wire seqFits code),
    examine_wire seqFits sendable⟩

end

section
/-! SUPPORT. The stages of an update in the words of their rules (R87 to R102, R108 to R111), and the ranges of what
they give (R80). -/

namespace Sys2Proof.Machine

/-! ### S1: the choice among candidates (R87) -/

/-- `a` is not after `b` in the order in which the mode held chooses: by magnitude, and at equal magnitudes the greater
number. -/
def Preferred (mode : Mode) (a b : Int) : Prop :=
  (if mode = .retard then b.natAbs ≤ a.natAbs else a.natAbs ≤ b.natAbs) ∧ (b.natAbs = a.natAbs → b ≤ a)

theorem Preferred.refl (mode : Mode) (a : Int) : Preferred mode a a := by
  unfold Preferred
  split <;> exact ⟨le_rfl, fun _ => le_rfl⟩

theorem Preferred.trans {mode : Mode} {a b c : Int} (ab : Preferred mode a b) (bc : Preferred mode b c) :
    Preferred mode a c := by
  by_cases retard : mode = .retard <;> simp only [Preferred, retard, if_true, if_false] at * <;> omega

theorem Preferred.antisymm {mode : Mode} {a b : Int} (ab : Preferred mode a b) (ba : Preferred mode b a) : a = b := by
  by_cases retard : mode = .retard <;> simp only [Preferred, retard, if_true, if_false] at * <;> omega

/-- The choice between two candidates gives one that is preferred to both. -/
theorem choice_preferred (mode : Mode) (a b : Int) :
    let z := (if mode = .retard then greatestOf else leastOf) a b
    (z = a ∨ z = b) ∧ Preferred mode z a ∧ Preferred mode z b := by
  unfold Preferred
  by_cases retard : mode = .retard
  · simp only [if_pos retard, greatestOf]
    omega
  · simp only [if_neg retard, leastOf]
    omega

theorem foldl_preferred (mode : Mode) (rest : List Int) (c : Int) :
    let z := rest.foldl (if mode = .retard then greatestOf else leastOf) c
    z ∈ c :: rest ∧ ∀ y ∈ c :: rest, Preferred mode z y := by
  induction rest generalizing c with
  | nil => exact ⟨List.mem_cons_self, fun y member => List.mem_singleton.1 member ▸ Preferred.refl mode c⟩
  | cons b rest ih =>
    obtain ⟨member, preferred⟩ := ih ((if mode = .retard then greatestOf else leastOf) c b)
    obtain ⟨one, first, second⟩ := choice_preferred mode c b
    have head := preferred _ List.mem_cons_self
    refine ⟨?_, fun y candidate => ?_⟩
    · obtain chosen | later := List.mem_cons.1 member
      · obtain same | same := one
        · exact List.mem_cons.2 (.inl (chosen.trans same))
        · exact List.mem_cons_of_mem _ (List.mem_cons.2 (.inl (chosen.trans same)))
      · exact List.mem_cons_of_mem _ (List.mem_cons_of_mem _ later)
    · obtain rfl | candidate := List.mem_cons.1 candidate
      · exact head.trans first
      · obtain rfl | candidate := List.mem_cons.1 candidate
        · exact head.trans second
        · exact preferred y (List.mem_cons_of_mem _ candidate)

theorem chooseSpeed_of_preferred {mode : Mode} {speeds : List Int} {x : Int} (member : x ∈ speeds)
    (preferred : ∀ y ∈ speeds, Preferred mode x y) : chooseSpeed mode speeds = some x := by
  cases speeds with
  | nil => cases member
  | cons c rest =>
    obtain ⟨chosen, least⟩ := foldl_preferred mode rest c
    exact congrArg some ((least x member).antisymm (preferred _ chosen))

theorem selectRef_of_preferred {mode : Mode} {speeds : List Int} {x : Int} (held : Int) (member : x ∈ speeds)
    (low : -3000 ≤ x) (high : x ≤ 3000) (preferred : ∀ y ∈ speeds, Preferred mode x y) :
    selectRef none mode speeds held = x := by
  simp only [selectRef, chooseSpeed_of_preferred member preferred, refSpeedInRange, low, high, and_self, if_true]

theorem refSpeedInRange_range (v : Int) : -3000 ≤ refSpeedInRange v ∧ refSpeedInRange v ≤ 3000 := by
  unfold refSpeedInRange clampInt
  split <;> omega

theorem selectRef_range {front : Option Int} {mode : Mode} {speeds : List Int} {held : Int}
    (heldRange : -3000 ≤ held ∧ held ≤ 3000) (frontRange : ∀ v, front = some v → -3000 ≤ v ∧ v ≤ 3000) :
    -3000 ≤ selectRef front mode speeds held ∧ selectRef front mode speeds held ≤ 3000 := by
  unfold selectRef
  cases front with
  | some v => exact frontRange v rfl
  | none =>
    cases chooseSpeed mode speeds with
    | some v => exact refSpeedInRange_range v
    | none => exact heldRange

/-! ### S3: slip (R89 to R91) -/

theorem slipClass_eq (faulted : Bool) (x : Int) : (if faulted then SlipClass.grip else slipClassOf x) =
    if faulted = true ∨ x.natAbs ≤ 30 then .grip else if x.natAbs ≤ 80 then .creep
    else if 80 < x then .slip else .skid := by
  cases faulted <;> simp [slipClassOf]

/-- R90: SLIP governs in PROPEL and under the rollback guard, SKID in RETARD without it. -/
theorem governingClass_eq_some {mode : Mode} {guard : Bool} {cls : SlipClass} (guarded : guard = true → mode = .retard) :
    governingClass mode guard = some cls ↔
      (cls = .slip ∧ (mode = .propel ∨ guard = true)) ∨ (cls = .skid ∧ mode = .retard ∧ guard = false) := by
  cases guard with
  | true => simp [guarded rfl, governingClass, eq_comm]
  | false => cases mode <;> simp [governingClass, eq_comm]

theorem nextSlipFactor_range {g : Nat} (range : 256 ≤ g ∧ g ≤ 1024) (cls : SlipClass) (governing : Option SlipClass) :
    256 ≤ nextSlipFactor g cls governing ∧ nextSlipFactor g cls governing ≤ 1024 := by
  unfold nextSlipFactor
  split
  · omega
  · split <;> omega

theorem nextPersistence_eq (faulted : Bool) (p : Nat) {cls : SlipClass} {governing : Option SlipClass} {governs : Prop}
    [Decidable governs] (same : governing = some cls ↔ governs) :
    (if faulted then 0 else nextPersistence p cls governing) =
      if faulted = false ∧ governs then min 200 (p + 1) else 0 := by
  cases faulted with
  | true => rfl
  | false => exact (if_neg nofun).trans (if_congr (same.trans (and_iff_right rfl).symm) rfl rfl)

theorem nextPersistence_le (p : Nat) (cls : SlipClass) (governing : Option SlipClass) :
    nextPersistence p cls governing ≤ 200 := by
  unfold nextPersistence
  split
  · exact countTo_le 200 p
  · exact Nat.zero_le _

theorem nextGrip_le (p : Nat) (cls : SlipClass) : nextGrip p cls ≤ 255 := by
  unfold nextGrip
  split
  · exact countTo_le 255 p
  · exact Nat.zero_le _

/-! ### S4 and S5: ceiling and mode (R92, R93) -/

theorem minOpt_isLeast {a : Nat} {l : List Nat} (least : IsLeast {x | x ∈ l} a) (o : Option Nat) :
    IsLeast {x | x ∈ l ++ o.toList} (minOpt a o) := by
  obtain ⟨member, lower⟩ := least
  cases o with
  | none => simpa [minOpt] using ⟨member, lower⟩
  | some b =>
    refine ⟨?_, fun x given => ?_⟩
    · obtain same | same := min_choice a b
      · simp [minOpt, same, show a ∈ l from member]
      · simp [minOpt, same]
    · obtain given | given := List.mem_append.1 given
      · exact (min_le_left a b).trans (lower given)
      · exact (List.mem_singleton.1 given) ▸ min_le_right a b

theorem effectiveCeiling_isLeast (demand : Nat) (stack turn : Option Nat) (cls : PayloadClass) (heavy : Nat) :
    IsLeast {x | x ∈ demand :: (stack.toList ++ turn.toList ++ (if cls = .normal then [] else [heavy]))}
      (effectiveCeiling demand stack turn cls heavy) := by
  have payload : (if cls.limited then some heavy else none).toList = if cls = .normal then [] else [heavy] := by
    cases cls <;> rfl
  have start : IsLeast {x | x ∈ [demand]} demand := by simp [IsLeast, lowerBounds]
  have least := minOpt_isLeast (minOpt_isLeast (minOpt_isLeast start stack) turn) (if cls.limited then some heavy else none)
  simpa only [effectiveCeiling, payload, List.append_assoc, List.cons_append, List.nil_append] using least

theorem rollback_iff (uRef : Int) : rollback uRef = true ↔ uRef < -30 := decide_eq_true_iff

theorem selectMode_eq (uRef : Int) (c : Nat) (d : DemandRecord) : selectMode uRef c d =
    if uRef < -30 ∨ 0 < d.retard ∨ (c : Int) < uRef then .retard
    else if 0 < d.propel ∧ d.direction ≠ .neutral then .propel else .coast := by
  unfold selectMode
  by_cases guard : uRef < -30
  · rw [if_pos ((rollback_iff uRef).2 guard), if_pos (.inl guard)]
  · rw [if_neg (mt (rollback_iff uRef).1 guard)]
    exact if_congr (or_iff_right guard).symm rfl rfl

theorem selectMode_of_rollback {uRef : Int} (c : Nat) (d : DemandRecord) (guard : rollback uRef = true) :
    selectMode uRef c d = .retard := if_pos guard

theorem selectMode_ne_hold (uRef : Int) (c : Nat) (d : DemandRecord) : selectMode uRef c d ≠ .hold := by
  rw [selectMode_eq]
  split
  · nofun
  · split <;> nofun

/-! ### S6: the demand magnitude (R94 to R96) -/

theorem speedTerm_eq (gain : Nat) (uRef : Int) (c : Nat) : speedTerm gain uRef c = gain * (uRef - c).toNat := by
  unfold speedTerm
  split
  · rfl
  · rw [Int.toNat_of_nonpos (by omega), Nat.mul_zero]

theorem demandMagnitude_eq (r : CommRecord) (d : DemandRecord) {mode : Mode} (guard : Bool) (uRef : Int) (c : Nat)
    (driven : mode ≠ .hold) : demandMagnitude r d mode guard uRef c =
      if mode = .propel then d.propel * propelEnvelope r uRef / 1000
      else if mode = .coast then 0
      else if guard = true then min (r.governorGain * uRef.natAbs) (retardEnvelope r uRef)
      else min (max (d.retard * retardEnvelope r uRef / 1000) (r.governorGain * (uRef - c).toNat)) (retardEnvelope r uRef) := by
  cases mode with
  | propel | coast => rfl
  | retard => simp only [demandMagnitude, speedTerm_eq, reduceCtorEq, if_false]
  | hold => exact absurd rfl driven

/-! ### S7 to S10 (R77, R98, R99, R109, R111) -/

theorem retardShare_eq (mode : Mode) (m own : Nat) (peers : Peers) (linkFaulted : Bool) :
    retardShare mode m own peers linkFaulted =
      if mode ≠ .retard then m
      else if linkFaulted = true then
        min (shareOf m (peers.driven.length + 1) own (capacitySum own peers)) (m * 512 / 1024)
      else shareOf m (peers.driven.length + 1) own (capacitySum own peers) := by
  unfold retardShare
  by_cases retard : mode = .retard
  · rw [if_pos retard, if_neg (not_not.2 retard)]
  · rw [if_neg retard, if_pos retard]

theorem favoured_iff (mode : Mode) (role : Role) : favoured mode role = true ↔
    (mode = .propel ∧ role = .outer) ∨ (mode = .retard ∧ role = .inner) := by
  simp [favoured]

theorem applyDifferential_eq (mode : Mode) (role : Role) (d m : Nat) : applyDifferential mode role d m =
    m * (if (mode = .propel ∧ role = .outer) ∨ (mode = .retard ∧ role = .inner) then 1000 + d else 1000 - d) / 1000 := by
  simp only [applyDifferential, favoured_iff]
  split <;> rfl

theorem windingFactor_eq (mode : Mode) (w : Nat) :
    windingFactor mode w = if mode = .propel then w else if mode = .retard then max 512 w else 1024 := by
  cases mode <;> rfl

theorem PayloadClass.limited_iff (cls : PayloadClass) : cls.limited = true ↔ cls ≠ .normal := by
  cases cls <;> decide

theorem payloadFactor_eq (mode : Mode) (cls : PayloadClass) :
    payloadFactor mode cls = if mode = .propel ∧ cls ≠ .normal then 922 else 1024 :=
  if_congr (and_congr_right' cls.limited_iff) rfl rfl

theorem linkFactor_eq (mode : Mode) (v : Int) : linkFactor mode v =
    if mode = .propel then
      (if 1300 ≤ v then 1024 else if 1000 < v then (v - 1000).toNat * 1024 / 300 else 0)
    else if mode = .retard then
      (if v ≤ 2000 then 1024 else if v < 2300 then (2300 - v).toNat * 1024 / 300 else 0)
    else 1024 := by
  cases mode <;> rfl

theorem targetOf_eq (mode : Mode) (guard : Bool) (m : Nat) : targetOf mode guard m =
    if mode = .propel ∨ (mode = .retard ∧ guard = true) then (m : Int) else if mode = .retard then -(m : Int) else 0 := by
  cases mode <;> cases guard <;> rfl

/-! ### S12 and S13 (R95, R101, R102) -/

theorem propelEnvelope_le (r : CommRecord) (u : Int) : propelEnvelope r u ≤ r.propelMax := by
  unfold propelEnvelope
  split
  · exact le_rfl
  · next fast =>
    exact Nat.div_le_of_le_mul (by rw [Nat.mul_comm]; exact Nat.mul_le_mul_right _ (Nat.le_of_not_le fast))

theorem hardLimit_le {ep er bound : Nat} (propel : ep ≤ bound) (retard : er ≤ bound) (mode : Mode)
    (ceiling capacity : Nat) : hardLimit mode ceiling ep capacity er ≤ bound := by
  cases mode <;> simp only [hardLimit] <;> omega

theorem limitOf_le {r : CommRecord} (range : r.InRange) (n : Snapshot) (u : UpdateResult) : limitOf r n u ≤ 4000 := by
  obtain ⟨-, -, -, ⟨-, propelMax⟩, -, ⟨-, retardMax⟩, -⟩ := range
  exact hardLimit_le ((propelEnvelope_le r u.uRef).trans propelMax) ((min_le_left _ _).trans retardMax) _ _ _

theorem requestInRange_le (p : Nat) : requestInRange p ≤ 12000 := by
  unfold requestInRange
  split <;> omega

theorem gridRequest_le (mode : Mode) (output wheel : Int) (radius : Nat) : gridRequest mode output wheel radius ≤ 12000 := by
  unfold gridRequest
  split
  · exact requestInRange_le _
  · exact Nat.zero_le _

theorem gridRequest_of_retard {mode : Mode} {output wheel : Int} {radius : Nat} (retard : mode = .retard)
    (within : output.natAbs * wheel.natAbs / radius ≤ 12000) :
    gridRequest mode output wheel radius = output.natAbs * wheel.natAbs / radius :=
  (if_pos retard).trans (if_pos within)

theorem nextShortfall_le {count : Nat} (range : count ≤ 40) (u : UpdateResult) : nextShortfall count u ≤ 40 := by
  unfold nextShortfall
  split
  · exact Nat.zero_le _
  · split
    · exact countTo_le 40 count
    · exact range

/-- S2 (R88): a turn factor of at most 1.5 carries a reference speed of R80 to at most 4500 cm/s. -/
theorem expected_range {x f : Int} (low : -3000 ≤ x) (high : x ≤ 3000) (turn : 2048 ≤ f ∧ f ≤ 6144) :
    -4500 ≤ (x * f).tdiv 4096 ∧ (x * f).tdiv 4096 ≤ 4500 := by
  obtain ⟨positive, bound⟩ := turn
  have top : x * f ≤ 18432000 := by nlinarith
  have bottom : -18432000 ≤ x * f := by nlinarith
  generalize x * f = p at *
  obtain forward | backward := le_total 0 p
  · rw [Int.tdiv_eq_ediv_of_nonneg forward]
    omega
  · have mirrored : p.tdiv 4096 = -((-p) / 4096) := by
      rw [← Int.tdiv_eq_ediv_of_nonneg (by omega), Int.neg_tdiv, neg_neg]
    omega

/-! ### The whole update -/

section
variable (r : CommRecord) (n : Snapshot)

theorem runStages_mode : (runStages r n).mode =
    selectMode (runStages r n).uRef (runStages r n).ceiling n.demand.demand := rfl

theorem runStages_guard : (runStages r n).guard = rollback (runStages r n).uRef := rfl

theorem runStages_mode_of_guard (guard : (runStages r n).guard = true) : (runStages r n).mode = .retard :=
  selectMode_of_rollback _ _ guard

end

theorem mul_sign_range {x σ : Int} {bound : Nat} (sign : σ = 1 ∨ σ = -1) (low : -(bound : Int) ≤ x) (high : x ≤ bound) :
    -(bound : Int) ≤ x * σ ∧ x * σ ≤ bound := by
  obtain rfl | rfl := sign <;> omega

end Sys2Proof.Machine

open Sys2Proof Sys2Proof.Machine

/-- Settles O48: each stage is its spelled form; the choice of S1 is the one candidate preferred to all (R87), and the mode is
never HOLD, so that the six formulas by mode cover every update. -/
theorem updateResultsInRange : Obligations.UpdateResultsInRange := by
  refine ⟨fun r n => ?_, fun r n range held front turn factor persistence grip shortfall => ?_⟩
  · intro u d f speeds slip governs limits ep er offers fair v
    have governing : governingClass u.mode u.guard = some u.slip ↔ governs :=
      governingClass_eq_some (runStages_mode_of_guard r n)
    have ceiling : IsLeast {x | x ∈ limits} u.ceiling :=
      effectiveCeiling_isLeast d.ceiling n.speedCeiling n.geometry.turnCeiling n.payloadClass r.heavyCeiling
    have vRef : u.vRef = selectRef d.frontRef n.mode speeds n.vRef := rfl
    have sign : u.sign = directionSign d.direction u.vRef := rfl
    have factored : u.factored = u.shaped * (if n.wheelFaulted = true then 1024 else u.slipFactor) / 1024
        * windingFactor u.mode n.derate / 1024 * payloadFactor u.mode n.payloadClass / 1024
        * linkFactor u.mode v / 1024 := rfl
    rw [windingFactor_eq, payloadFactor_eq, linkFactor_eq] at factored
    refine ⟨fun x given => ?_, fun absent empty => ?_, fun x member absent low high preferred => ?_, ?_, rfl, rfl,
      slipClass_eq _ _, if_congr Iff.rfl rfl (if_congr governing rfl rfl), nextPersistence_eq _ _ governing, rfl,
      ceiling.1, fun x given => ceiling.2 given, rollback_iff _, selectMode_eq _ _ _,
      demandMagnitude_eq r d u.guard u.uRef u.ceiling (selectMode_ne_hold _ _ _), retardShare_eq _ _ _ _ _,
      applyDifferential_eq _ _ _ _, factored, targetOf_eq _ _ _, fun other => if_neg other, gridRequest_of_retard⟩
    · rw [vRef, given]
      rfl
    · rw [vRef, absent, empty]
      rfl
    · rw [vRef, absent]
      exact selectRef_of_preferred n.vRef member low high preferred
    · rw [sign]
      cases d.direction <;> rfl
  · intro u
    have vRef : -3000 ≤ u.vRef ∧ u.vRef ≤ 3000 := selectRef_range held front
    have sign : u.sign = 1 ∨ u.sign = -1 := runStages_sign r n
    have uRef : -3000 ≤ u.uRef ∧ u.uRef ≤ 3000 := mul_sign_range (bound := 3000) sign vRef.1 vRef.2
    have output : u.output.natAbs ≤ 4000 :=
      (runStages_natAbs_output_le r n).trans ((min_le_right _ _).trans (limitOf_le range n u))
    refine ⟨by omega, gridRequest_le _ _ _ _, vRef, uRef, expected_range uRef.1 uRef.2 turn, ?_, ?_, ?_,
      nextShortfall_le shortfall u, selectMode_ne_hold _ _ _⟩
    · change 256 ≤ (if n.wheelFaulted = true then n.slipFactor else nextSlipFactor n.slipFactor u.slip _) ∧
        (if n.wheelFaulted = true then n.slipFactor else nextSlipFactor n.slipFactor u.slip _) ≤ 1024
      split
      · exact factor
      · exact nextSlipFactor_range factor _ _
    · change (if n.wheelFaulted = true then 0 else nextPersistence n.persistence u.slip _) ≤ 200
      split
      · exact Nat.zero_le _
      · exact nextPersistence_le _ _ _
    · change (if n.wheelFaulted = true then n.grip else nextGrip n.grip u.slip) ≤ 255
      split
      · exact grip
      · exact nextGrip_le _ _

end
